-- ==== Sys2Proof/Word.lean ====
section
/-! DEFINITION. The words of the part: bytes of a frame, sequence numbers that wrap at 256, the CRC register. -/

namespace Sys2Proof

/-- One byte of a frame (10_frame_formats_and_codes.md). -/
abbrev Byte := BitVec 8

/-- A frame sequence or delivery sequence, 0..255, wrapping 255 to 0 (R102, R156). -/
abbrev SeqNum := BitVec 8

/-- The register of the frame check (R197). -/
abbrev CrcWord := BitVec 32

/-- A station, 0..7; station n is on port n (00_scope.md section 4.4). -/
abbrev StationId := Fin 8

/-- A port, 0..7. -/
abbrev PortId := Fin 8

end Sys2Proof
end

