-- ==== Sys2Proof/Config.lean ====
section
/-! DEFINITION. What the part fixes: capacities, default settings, the part identity. The spec leaves no value
open, so there is no free value. -/

namespace Sys2Proof.Config

/-- Slots of one grant table (R1). -/
def slotsPerTable : Nat := 1023
/-- Slots in use across all stations (R5). -/
def storeCapacity : Nat := 4096
/-- Family records (R11). -/
def familyCapacity : Nat := 1023
/-- Message descriptors of the pool (R47). -/
def descriptorCapacity : Nat := 1024
/-- Cells of the pool (R47). -/
def cellCapacity : Nat := 3072
/-- Report records of the report reserve (R49). -/
def reportCapacity : Nat := 64
/-- Bytes of one cell (00_scope.md section 4.2). -/
def cellBytes : Nat := 64
/-- Highest receive queue number (R34). -/
def lastQueue : Nat := 63
/-- Receive queues of one station (R192). -/
def queuesPerStation : Nat := 64
/-- Depth limit of RQ 0 (R36). -/
def reportDepth : Nat := 32
/-- Longest payload (R66). -/
def payloadMax : Nat := 448
/-- Longest content of a readable frame (R197). -/
def contentMax : Nat := 512
/-- Frames an ingress queue holds (R156). -/
def ingressCapacity : Nat := 4
/-- Entries of an answer history (R156). -/
def historyCapacity : Nat := 4
/-- Answers an answer list holds (R156). -/
def answerCapacity : Nat := 8
/-- Deliveries outstanding on one port (R101). -/
def windowCapacity : Nat := 4
/-- Highest credit (R103). -/
def creditMax : Nat := 15
/-- Saturation of the CRC error count (R168). -/
def crcErrorMax : Nat := 65535
/-- Saturation of a lost-report count (R149). -/
def lostReportMax : Nat := 255
/-- Protocol error limit after power-on (R178). -/
def defaultProtocolLimit : Nat := 16
/-- Ack timeout after power-on, in units of 100 µs (R122). -/
def defaultAckTimeout : Nat := 20
/-- Retry limit after power-on (R122). -/
def defaultRetryLimit : Nat := 3
/-- Origin shown for a report (R106). -/
def reportOrigin : Nat := 15
/-- Limits of station 0 after power-on (R196). -/
def station0GrantLimit : Nat := 256
def station0QueueLimit : Nat := 16
def station0CellQuota : Nat := 1024
/-- Family code, part code and design revision (R201). -/
def partIdentity : List Byte := [0x5C, 0x08, 0x01]

end Sys2Proof.Config
end

