-- ==== Sys2Proof/Syntax.lean ====
section
/-! DEFINITION. The commands: one constructor per row of spec/opcode_table.json. A command is one event of the part.
An arrival carries the port and the frame's content, every byte between the delimiters, CRC included (R197). A taking
carries the port whose ingress queue's head frame is taken; the request's parameters are in that frame (R61, R180). -/

namespace Sys2Proof

inductive Instr where
  /-- RESET_N asserted and released, or the hold in reset at power-on (R202). -/
  | resetN
  /-- The line receiver of port p reports signal detect (R158). -/
  | signalDetect (p : PortId)
  /-- The line receiver of port p reports signal loss (R158). -/
  | signalLoss (p : PortId)
  /-- A frame with a CRC error arrives (R168). -/
  | crcErrorFrame (p : PortId) (content : List Byte)
  /-- A frame arrives that passes the CRC and cannot be read (R163). -/
  | unreadableFrame (p : PortId) (content : List Byte)
  /-- A LINK OPEN frame arrives (R159). -/
  | linkOpen (p : PortId) (content : List Byte)
  /-- A LINK CLOSE frame arrives (R160). -/
  | linkClose (p : PortId) (content : List Byte)
  /-- A LINK PING frame arrives (R160). -/
  | linkPing (p : PortId) (content : List Byte)
  /-- A MESSAGE or CONTROL frame arrives (R164). -/
  | ingressArrival (p : PortId) (content : List Byte)
  /-- An ACK frame arrives (R109). -/
  | ack (p : PortId) (content : List Byte)
  /-- The Admission Unit takes the MESSAGE frame at the head of port p's ingress queue (R63). -/
  | admission (p : PortId)
  /-- The Control Path takes the ISSUE GRANT frame at the head of port p's ingress queue (R24), and so on below. -/
  | issueGrant (p : PortId)
  | dropGrant (p : PortId)
  | installGrant (p : PortId)
  | readGrant (p : PortId)
  | readFamily (p : PortId)
  | openQueue (p : PortId)
  | sealQueue (p : PortId)
  | unsealQueue (p : PortId)
  | setDepth (p : PortId)
  | readQueue (p : PortId)
  | readPool (p : PortId)
  | setBand (p : PortId)
  | setQuanta (p : PortId)
  | setDeliveryTiming (p : PortId)
  | revokeFamily (p : PortId)
  | purgeQueue (p : PortId)
  | evictStation (p : PortId)
  | readSweep (p : PortId)
  | releasePort (p : PortId)
  | readPort (p : PortId)
  | setPortLimit (p : PortId)
  | enableStation (p : PortId)
  | setLimits (p : PortId)
  | setManage (p : PortId)
  | readStation (p : PortId)
  | readDevice (p : PortId)
  | clearTables (p : PortId)
  /-- The Control Path takes a CONTROL frame whose request code is not in the catalogue (R181). -/
  | unknownRequest (p : PortId)
  /-- The Delivery Scheduler of station p makes a selection (R86). -/
  | selection (p : PortId)
  /-- The retransmission timer of port p expires (R112). -/
  | expiry (p : PortId)
  /-- The egress link of port p becomes free and is granted (R173). -/
  | egressArbitration (p : PortId)
  /-- One step of the sweep's slot pass (R127). -/
  | slotPassStep
  /-- One step of the sweep's queue pass (R128). -/
  | queuePassStep
  deriving DecidableEq, Repr

end Sys2Proof
end

