-- ==== Sys2Proof/Decode.lean ====
section
/-! DEFINITION. From the bytes of a received frame to what arrived (R163, R197, R198), the CRC-32 of every frame, and
the encoder of upstream frames written from the same layouts. The opcode table gives no row any bits. -/

namespace Sys2Proof

/-- One bit of the CRC: polynomial 0x04C11DB7, most significant bit first (R197). -/
def crcBit (c : CrcWord) : CrcWord :=
  if c.msb then (c <<< 1) ^^^ 0x04C11DB7#32 else c <<< 1

/-- The register after the eight bits of one byte (R197). -/
def crcByte (c : CrcWord) (b : Byte) : CrcWord :=
  let c := c ^^^ (b.setWidth 32 <<< 24)
  crcBit (crcBit (crcBit (crcBit (crcBit (crcBit (crcBit (crcBit c)))))))

/-- CRC-32 over bytes: start 0xFFFFFFFF, inverted at the end (R197). -/
def crc32 (bs : List Byte) : CrcWord :=
  ~~~ (bs.foldl crcByte 0xFFFFFFFF#32)

/-- The CRC field, most significant byte first (R197). -/
def crcField (bs : List Byte) : List Byte :=
  let c := crc32 bs
  [c.extractLsb' 24 8, c.extractLsb' 16 8, c.extractLsb' 8 8, c.extractLsb' 0 8]

/-- A frame's content: its bytes with the CRC in the last four (R197). -/
def sealFrame (bs : List Byte) : List Byte := bs ++ crcField bs

/-- The content without its last four bytes. -/
def withoutCrc (content : List Byte) : List Byte := content.take (content.length - 4)

/-- The frame check: at least 5 bytes, and the last four are the CRC of those before (R197). -/
def crcOk (content : List Byte) : Bool :=
  5 ≤ content.length && content.drop (content.length - 4) == crcField (withoutCrc content)

/-- MESSAGE or CONTROL: the two kinds that enter an ingress queue (R156). -/
inductive FrameKind where
  | message
  | control
  deriving DecidableEq, Repr

/-- The kind byte of a MESSAGE or CONTROL frame (R197). -/
def FrameKind.byte : FrameKind → Byte
  | .message => 0x01
  | .control => 0x02

/-- Bytes of the fixed header after the sequence (R197): 9 and 5, less the 3 bytes read before. -/
def FrameKind.fixedRest : FrameKind → Nat
  | .message => 6
  | .control => 2

/-- A readable MESSAGE or CONTROL frame: its header fields and the bytes after the sequence, CRC excluded. Whether
those bytes are well formed is judged by the frame's taker (R163). -/
structure IngressFrame where
  kind : FrameKind
  session : Nat
  seq : SeqNum
  body : List Byte
  deriving DecidableEq, Repr

/-- A readable ACK frame (R198). -/
structure AckFrame where
  session : Nat
  seq : Option SeqNum
  credit : Nat
  deriving DecidableEq, Repr

/-- What has arrived, by the checks of R163 in their order. -/
inductive Arrival where
  /-- The frame check fails (R163 check 1). -/
  | crcError
  /-- The frame cannot be read (R163 check 2), other than `badLinkOpen`. -/
  | unreadable
  /-- A LINK OPEN whose session number is not 1..15: it cannot be read (R159, R163, R169). -/
  | badLinkOpen
  | linkOpen (session : Nat)
  | linkClose
  | linkPing
  | ingress (f : IngressFrame)
  | ack (f : AckFrame)
  deriving DecidableEq, Repr

/-- Session and sequence of a MESSAGE or CONTROL frame, and the rest of its fixed header (R197, R198). DEDUCED (log 9):
the fixed header must be present with the CRC excluded. -/
def readIngress (kind : FrameKind) : List Byte → Arrival
  | ses :: seq :: body =>
    if ses.toNat ≤ 15 ∧ kind.fixedRest ≤ body.length then .ingress ⟨kind, ses.toNat, seq, body⟩ else .unreadable
  | _ => .unreadable

/-- The fields of an ACK frame (R198). -/
def readAck : List Byte → Arrival
  | [ses, ind, seq, credit] =>
    if ses.toNat ≤ 15 ∧ credit.toNat ≤ 15 then
      if ind = 0#8 then .ack ⟨ses.toNat, none, credit.toNat⟩
      else if ind = 1#8 then .ack ⟨ses.toNat, some seq, credit.toNat⟩
      else .unreadable
    else .unreadable
  | _ => .unreadable

/-- The fields of an upstream LINK frame (R198); the session number is ignored for CLOSE and PING. -/
def readLink : List Byte → Arrival
  | [code, ses] =>
    if code = 1#8 then
      if 1 ≤ ses.toNat ∧ ses.toNat ≤ 15 then .linkOpen ses.toNat else .badLinkOpen
    else if code = 2#8 then .linkClose
    else if code = 3#8 then .linkPing
    else .unreadable
  | _ => .unreadable

/-- Kind and header of a frame, CRC excluded (R197, R198). -/
def readFrame : List Byte → Arrival
  | [] => .unreadable
  | kind :: rest =>
    if kind = 0x01#8 then readIngress .message rest
    else if kind = 0x02#8 then readIngress .control rest
    else if kind = 0x03#8 then readAck rest
    else if kind = 0x04#8 then readLink rest
    else .unreadable

/-- What the content of a received frame is: CRC first, then readability (R163, R197). -/
def classify (content : List Byte) : Arrival :=
  if crcOk content then
    if content.length ≤ Config.contentMax then readFrame (withoutCrc content) else .unreadable
  else .crcError

/-- The bytes of a readable upstream frame, CRC excluded (R198). Bytes a frame leaves without meaning are 0. -/
def Arrival.bytes : Arrival → List Byte
  | .crcError | .unreadable | .badLinkOpen => []
  | .linkOpen n => [0x04, 1, BitVec.ofNat 8 n]
  | .linkClose => [0x04, 2, 0]
  | .linkPing => [0x04, 3, 0]
  | .ingress f => f.kind.byte :: BitVec.ofNat 8 f.session :: f.seq :: f.body
  | .ack f =>
    match f.seq with
    | none => [0x03, BitVec.ofNat 8 f.session, 0, 0, BitVec.ofNat 8 f.credit]
    | some n => [0x03, BitVec.ofNat 8 f.session, 1, n, BitVec.ofNat 8 f.credit]

/-- The content of a readable upstream frame, CRC included (R197, R198). -/
def Arrival.encode (a : Arrival) : List Byte := sealFrame a.bytes

/-- The field ranges and lengths of a readable upstream frame (R197, R198). -/
def Arrival.wf : Arrival → Bool
  | .crcError | .unreadable | .badLinkOpen => false
  | .linkOpen n => 1 ≤ n && n ≤ 15
  | .linkClose | .linkPing => true
  | .ingress f => f.session ≤ 15 && f.kind.fixedRest ≤ f.body.length && f.body.length + 7 ≤ Config.contentMax
  | .ack f => f.session ≤ 15 && f.credit ≤ 15

/-- The command a word spells by the table's bits: the table gives no row any bits, so none (log 8). -/
def decodeTableWord (_nbits _w : Nat) : Option Instr := none

end Sys2Proof
end

