-- ==== Sys2Proof/Machine/Table.lean ====
section
/-! DEFINITION. Sparse stores: records by number, in one canonical form (numbers strictly rising, a FREE or UNUSED
record not listed), and banks of eight, one for each station or port. -/

namespace Sys2Proof.Machine

/-- Records by number. -/
abbrev Table (α : Type) := List (Nat × α)

/-- The record with number k; none when it is FREE or UNUSED. -/
def Table.find {α : Type} : Table α → Nat → Option α
  | [], _ => none
  | (a, x) :: r, k => if a = k then some x else Table.find r k

/-- Makes x the record with number k. -/
def Table.put {α : Type} : Table α → Nat → α → Table α
  | [], k, x => [(k, x)]
  | (a, y) :: r, k, x =>
    if k < a then (k, x) :: (a, y) :: r
    else if k = a then (k, x) :: r
    else (a, y) :: Table.put r k x

/-- Makes the record with number k FREE or UNUSED. -/
def Table.erase {α : Type} : Table α → Nat → Table α
  | [], _ => []
  | (a, y) :: r, k => if a = k then r else (a, y) :: Table.erase r k

/-- The lowest number, from lo upwards, whose record is not listed (R3, R12, R51). -/
def Table.lowestFree {α : Type} : Table α → Nat → Nat
  | [], lo => lo
  | (a, _) :: r, lo =>
    if a < lo then Table.lowestFree r lo
    else if a = lo then Table.lowestFree r (lo + 1)
    else lo

/-- The same change made to every record. -/
def Table.mapRecords {α : Type} (t : Table α) (f : α → α) : Table α := t.map (fun e => (e.1, f e.2))

/-- How many records satisfy a test. -/
def Table.countRecords {α : Type} (t : Table α) (f : α → Bool) : Nat := t.countP (fun e => f e.2)

/-- The canonical form: numbers strictly rising. -/
def Table.canonical {α : Type} : Table α → Bool
  | [] => true
  | [_] => true
  | (a, _) :: (b, y) :: r => decide (a < b) && Table.canonical ((b, y) :: r)

/-- One item for each of the eight stations or ports. -/
abbrev Bank (α : Type) := Vector α 8

def Bank.get {α : Type} (v : Bank α) (t : Fin 8) : α := v[t]

def Bank.set {α : Type} (v : Bank α) (t : Fin 8) (x : α) : Bank α := Vector.set v t x

/-- The same item for all eight. -/
def Bank.fill {α : Type} (x : α) : Bank α := Vector.replicate 8 x

/-- Item t changed by f t, for all eight. -/
def Bank.mapIdx {α β : Type} (v : Bank α) (f : Fin 8 → α → β) : Bank β :=
  Vector.ofFn (fun t => f t (Bank.get v t))

/-- The items in station order. -/
def Bank.items {α : Type} (v : Bank α) : List α := (List.finRange 8).map (Bank.get v)

/-- The sum of eight counts. -/
def Bank.total (v : Bank Nat) : Nat := (Bank.items v).sum

/-- The eight stations or ports in ascending order. -/
def stationsInOrder : List StationId := List.finRange 8

end Sys2Proof.Machine
end

