-- ==== Sys2Proof/Machine/State.lean ====
section
/-! DEFINITION. The state of the part as plain data: every record, queue, counter, list, mode and setting the spec
names, the queue of waiting commands, and the state after power-on. A FREE slot, family, descriptor or report record and
an UNUSED queue are records that their table does not list. -/

namespace Sys2Proof.Machine

/-! ### Grant Store and Family Table (chapter 1) -/

/-- The four rights of a grant (R6). -/
structure Rights where
  send : Bool
  share : Bool
  move : Bool
  expedite : Bool
  deriving DecidableEq, Repr

/-- A slot that is not FREE: reserved for a descriptor, or DEFINED (R1, R2). -/
inductive SlotStatus where
  | reserved (descriptor : Nat)
  | defined
  deriving DecidableEq, Repr

/-- A slot of a grant table that is not FREE (R1). An absent budget is `none`. -/
structure Slot where
  status : SlotStatus
  family : Nat
  rights : Rights
  budget : Option Nat
  deriving DecidableEq, Repr

/-- OPEN and REVOKING (R11). -/
inductive FamilyState where
  | opened
  | revoking
  deriving DecidableEq, Repr

/-- A family record that is not FREE (R11). -/
structure Family where
  state : FamilyState
  issuer : StationId
  issuerGeneration : Nat
  target : Nat
  ceiling : Rights
  tag : Nat
  reportOnClose : Bool
  live : Nat
  deriving DecidableEq, Repr

/-- Why a family closed (R19). -/
inductive ClosureReason where
  | released
  | revoked
  deriving DecidableEq, Repr

/-! ### Queue Store and Message Pool (chapter 2) -/

/-- Delivery bands 0..3 (R34, R83). -/
inductive Band where
  | b0
  | b1
  | b2
  | b3
  deriving DecidableEq, Repr

/-- Bands 1..3, which share by deficit round robin (R83). -/
inductive DrrBand where
  | b1
  | b2
  | b3
  deriving DecidableEq, Repr

/-- A record of the Message Pool: a message descriptor or a report record (R45, R49). -/
inductive EntryRef where
  | message (id : Nat)
  | report (id : Nat)
  deriving DecidableEq, Repr

/-- The segments of a message list (R37). -/
inductive Segment where
  | returned
  | expedited
  | normal
  deriving DecidableEq, Repr

/-- An entry of a message list with its segment (R37). -/
structure ListEntry where
  ref : EntryRef
  segment : Segment
  deriving DecidableEq, Repr

/-- OPEN, SEALED and PURGING (R34). -/
inductive QueueState where
  | opened
  | sealed
  | purging
  deriving DecidableEq, Repr

/-- A receive queue record that is not UNUSED (R34). -/
structure Queue where
  state : QueueState
  band : Band
  depth : Nat
  list : List ListEntry
  outstanding : Nat
  heldMessages : Nat
  heldCells : Nat
  passComplete : Bool
  deriving DecidableEq, Repr

/-- Why a carried grant is VOID (R44). -/
inductive VoidReason where
  | revoked
  | noRoom
  deriving DecidableEq, Repr

/-- The state of an attached grant (R44). -/
inductive CarriedState where
  | inTransit
  | reserved (slot : Nat)
  | void (reason : VoidReason)
  deriving DecidableEq, Repr

/-- The attached grant of a descriptor (R44). -/
structure CarriedGrant where
  family : Nat
  rights : Rights
  budget : Option Nat
  state : CarriedState
  deriving DecidableEq, Repr

/-- A message descriptor that is not FREE (R43). -/
structure Descriptor where
  origin : StationId
  target : StationId
  queue : Nat
  tag : Nat
  expedite : Bool
  repeated : Bool
  payload : List Byte
  cells : Nat
  seq : Option SeqNum
  grant : Option CarriedGrant
  deriving DecidableEq, Repr

/-- What a sweep withdraws, which also gives its kind (R124). -/
inductive SweepSubject where
  | revoke (family : Nat)
  | purge (station : StationId) (queue : Nat)
  | evict (station : StationId)
  deriving DecidableEq, Repr

/-- Why a port was fenced (R170). -/
inductive FenceCause where
  | retries
  | protocol
  deriving DecidableEq, Repr

/-- The content of a report (R146). -/
inductive ReportContent where
  | sweepComplete (ticket : Nat) (subject : SweepSubject) (slotsFreed messagesFreed : Nat)
  | familyClosed (family tag : Nat) (reason : ClosureReason)
  | portFenced (port : PortId) (cause : FenceCause)
  deriving DecidableEq, Repr

/-- A report record that is not FREE: LISTED while it has no delivery sequence, OUTSTANDING while it has one (R147).
Its segment is held with its list entry (R37). -/
structure ReportRecord where
  station : StationId
  content : ReportContent
  lostCarried : Nat
  repeated : Bool
  seq : Option SeqNum
  deriving DecidableEq, Repr

/-! ### Delivery Schedulers (chapter 4) -/

/-- The active lists of bands 0..3 (R83). -/
structure ActiveLists where
  b0 : List Nat
  b1 : List Nat
  b2 : List Nat
  b3 : List Nat
  deriving DecidableEq, Repr

/-- One count for each of bands 1..3: deficits, quanta (R83). -/
structure DrrCounts where
  b1 : Nat
  b2 : Nat
  b3 : Nat
  deriving DecidableEq, Repr

/-- The state of one station's Delivery Scheduler (R83). -/
structure Scheduler where
  active : ActiveLists
  deficit : DrrCounts
  pointer : DrrBand
  visitOpen : Bool
  deriving DecidableEq, Repr

/-! ### Delivery Windows (chapter 5) -/

/-- The grant section of a DELIVERY (R105, R200). -/
inductive GrantSection where
  | pending (slot : Nat) (rights : Rights) (budget : Option Nat) (tag : Nat)
  | withdrawn
  | noRoom
  deriving DecidableEq, Repr

/-- A DELIVERY frame as it was built (R106). -/
structure DeliveryFrame where
  session : Nat
  seq : SeqNum
  queue : Nat
  origin : Nat
  tag : Nat
  expedite : Bool
  repeated : Bool
  grant : Option GrantSection
  content : List Byte
  deriving DecidableEq, Repr

/-- The state of one port's Delivery Window (R100), with its frames that wait for the egress link (R107). The timer is
stopped (`none`) or running with its time remaining in units of 100 µs. -/
structure Window where
  outstanding : List EntryRef
  nextSeq : SeqNum
  credit : Nat
  timer : Option Nat
  retryCount : Nat
  ackTimeout : Nat
  retryLimit : Nat
  retransmissions : List DeliveryFrame
  newDeliveries : List DeliveryFrame
  deriving DecidableEq, Repr

/-! ### Port Link Controllers (chapter 8) -/

inductive PortState where
  | down
  | idle
  | active
  | fenced
  deriving DecidableEq, Repr

/-- The items of a session (R156). -/
structure Session where
  number : Nat
  arrival : SeqNum
  accepted : Nat
  deriving DecidableEq, Repr

/-- The verdict codes (R63, section 10.6). -/
inductive Verdict where
  | accepted | notEnabled | tooLong | noGrant | noRight | familyRevoked | queueClosed | budgetSpent
  | attachSame | attachNoGrant | attachNoRight | attachRevoked | attachRightsExceed | attachBudget
  | queueFull | quotaFull | poolEmpty | outOfSequence | malformed
  deriving DecidableEq, Repr

/-- The response status codes (R183, section 10.6). -/
inductive Status where
  | done | accepted | notEnabled | notPermitted | noSuch | badValue | wrongState | limitReached | storeFull
  | tableFull | sweepBusy | limitBelowUse | lastManager | reservedObject | unknownRequest | outOfSequence | malformed
  deriving DecidableEq, Repr

/-- The value field of a VERDICT (R200). -/
inductive VerdictValue where
  | zero
  | budget (b : Option Nat)
  | expected (a : SeqNum)
  deriving DecidableEq, Repr

/-- An answer: a VERDICT or a RESPONSE with its result bytes (R78, R183). -/
inductive Answer where
  | verdict (session : Nat) (seq : SeqNum) (code : Verdict) (value : VerdictValue)
  | response (session : Nat) (seq : SeqNum) (status : Status) (result : List Byte)
  deriving DecidableEq, Repr

/-- A reply to a LINK frame (R162). -/
inductive LinkReply where
  | opened (session : Nat)
  | closed
  | pong (active : Bool) (session : Nat)
  deriving DecidableEq, Repr

/-- The state of one Port Link Controller and its window (R156). `line` is the frame in progress on the egress link
(R107, R161; log 7). -/
structure PortLink where
  state : PortState
  session : Option Session
  ingress : List IngressFrame
  history : List Answer
  answers : List Answer
  linkReply : Option LinkReply
  crcErrors : Nat
  protocolErrors : Nat
  protocolLimit : Nat
  fenceCause : Option FenceCause
  line : Option (List Byte)
  window : Window
  deriving DecidableEq, Repr

/-! ### Sweep Unit (chapter 6) -/

/-- Phase and cursor of a sweep (R124). -/
inductive Cursor where
  | slotPass (station : StationId) (slot : Nat)
  | queuePass (station : StationId) (queue : Nat)
  deriving DecidableEq, Repr

/-- The sweep in progress (R124). -/
structure Sweep where
  subject : SweepSubject
  cursor : Cursor
  ticket : Nat
  requester : StationId
  requesterGeneration : Nat
  slotsFreed : Nat
  messagesFreed : Nat
  deriving DecidableEq, Repr

/-- The last completed record (R124, R125). -/
structure SweepOutcome where
  ticket : Nat
  subject : SweepSubject
  slotsFreed : Nat
  messagesFreed : Nat
  deriving DecidableEq, Repr

/-! ### Station Table (chapter 9) -/

inductive StationState where
  | absent
  | enabled
  | evicting
  deriving DecidableEq, Repr

/-- A station record (R184). -/
structure Station where
  state : StationState
  generation : Nat
  manage : Bool
  grantLimit : Nat
  queueLimit : Nat
  cellQuota : Nat
  lostReports : Nat
  quanta : DrrCounts
  deriving DecidableEq, Repr

/-! ### The whole part -/

/-- The state of the part and the commands that wait. -/
structure State where
  /-- The eight grant tables: slots not FREE (R1). -/
  tables : Bank (Table Slot)
  /-- Slots in use of each station (R4). -/
  slotsInUse : Bank Nat
  /-- The store use count (R5). -/
  storeUse : Nat
  /-- The Family Table: records not FREE (R11). -/
  families : Table Family
  /-- The receive queues of each station: records not UNUSED (R34). -/
  queues : Bank (Table Queue)
  /-- RQs in use of each station (R34). -/
  rqsInUse : Bank Nat
  /-- The descriptors not FREE (R43, R47). -/
  descriptors : Table Descriptor
  /-- Free descriptors (R47). -/
  freeDescriptors : Nat
  /-- Free cells (R47). -/
  freeCells : Nat
  /-- The report records not FREE (R147). -/
  reports : Table ReportRecord
  /-- Free report records (R47, R49). -/
  freeReports : Nat
  /-- Held cells of each station (R48). -/
  heldCells : Bank Nat
  /-- The Delivery Schedulers (R83). -/
  schedulers : Bank Scheduler
  /-- The ports with their windows (R156, R100). -/
  ports : Bank PortLink
  /-- The sweep in progress; none while the Sweep Unit is IDLE (R124). -/
  sweep : Option Sweep
  /-- Last ticket issued (R124). -/
  lastTicket : Nat
  /-- Last completed record (R124). -/
  lastCompleted : Option SweepOutcome
  /-- The Station Table (R184). -/
  stations : Bank Station
  /-- The commands that wait, first in first out. -/
  pending : List Instr
  deriving DecidableEq, Repr

/-- The reasons a step can stop with a fault. There is none: the spec names no event that stops the part. -/
inductive Fault where
  deriving DecidableEq, Repr

/-- The reasons a step can be refused. -/
inductive Refusal where
  /-- A command that has no meaning in this model yet; raised by the arms of `exec` alone. Safe: the run stops. -/
  | notModelled (mnemonic : String)
  deriving DecidableEq, Repr

/-! ### Power-on values -/

def ActiveLists.empty : ActiveLists := ⟨[], [], [], []⟩

def DrrCounts.zero : DrrCounts := ⟨0, 0, 0⟩

/-- The default quanta (R184). -/
def DrrCounts.defaultQuanta : DrrCounts := ⟨8, 4, 2⟩

/-- A scheduler after power-on and after ENABLE STATION (R97, R98). -/
def Scheduler.reset : Scheduler := ⟨ActiveLists.empty, DrrCounts.zero, .b1, false⟩

/-- A window after power-on (R122). -/
def Window.reset : Window :=
  { outstanding := [], nextSeq := 0, credit := 0, timer := none, retryCount := 0,
    ackTimeout := Config.defaultAckTimeout, retryLimit := Config.defaultRetryLimit,
    retransmissions := [], newDeliveries := [] }

/-- A port after power-on (R178). -/
def PortLink.reset : PortLink :=
  { state := .down, session := none, ingress := [], history := [], answers := [], linkReply := none,
    crcErrors := 0, protocolErrors := 0, protocolLimit := Config.defaultProtocolLimit, fenceCause := none,
    line := none, window := Window.reset }

/-- The record of stations 1 to 7 after power-on (R196). -/
def Station.resetAbsent : Station :=
  { state := .absent, generation := 0, manage := false, grantLimit := 0, queueLimit := 0, cellQuota := 0,
    lostReports := 0, quanta := DrrCounts.defaultQuanta }

/-- The record of station 0 after power-on (R196). -/
def Station.resetFirst : Station :=
  { state := .enabled, generation := 1, manage := true, grantLimit := Config.station0GrantLimit,
    queueLimit := Config.station0QueueLimit, cellQuota := Config.station0CellQuota,
    lostReports := 0, quanta := DrrCounts.defaultQuanta }

/-- A queue just opened: empty (R52). -/
def Queue.fresh (band : Band) (depth : Nat) : Queue :=
  { state := .opened, band := band, depth := depth, list := [], outstanding := 0, heldMessages := 0, heldCells := 0,
    passComplete := false }

/-- RQ 0 of an ENABLED station, empty (R36). -/
def Queue.freshReportQueue : Queue := Queue.fresh .b0 Config.reportDepth

/-- The part after power-on or RESET_N (R202: R31, R58, R98, R122, R144, R178, R196), with no command waiting. -/
def State.reset : State :=
  { tables := Bank.fill [], slotsInUse := Bank.fill 0, storeUse := 0, families := [],
    queues := Bank.set (Bank.fill []) 0 [(0, Queue.freshReportQueue)], rqsInUse := Bank.fill 0,
    descriptors := [], freeDescriptors := Config.descriptorCapacity, freeCells := Config.cellCapacity,
    reports := [], freeReports := Config.reportCapacity, heldCells := Bank.fill 0,
    schedulers := Bank.fill Scheduler.reset, ports := Bank.fill PortLink.reset,
    sweep := none, lastTicket := 0, lastCompleted := none,
    stations := Bank.set (Bank.fill Station.resetAbsent) 0 Station.resetFirst, pending := [] }

end Sys2Proof.Machine
end

