-- ==== Sys2Proof/Machine/Flags.lean ====
section
/-! DEFINITION. Rights, bands, wrapping and saturating counters, and the byte codes of states, statuses and flags. -/

namespace Sys2Proof.Machine

/-! ### Rights (R6, R7) -/

def Rights.isEmpty (r : Rights) : Bool := !(r.send || r.share || r.move || r.expedite)

/-- Every right of r is held by c (R7, R71). -/
def Rights.within (r c : Rights) : Bool :=
  (!r.send || c.send) && (!r.share || c.share) && (!r.move || c.move) && (!r.expedite || c.expedite)

/-- Bit 0 SEND, bit 1 SHARE, bit 2 MOVE, bit 3 EXPEDITE (section 10.3). -/
def Rights.byte (r : Rights) : Byte :=
  BitVec.ofNat 8 (Bool.toNat r.send + 2 * Bool.toNat r.share + 4 * Bool.toNat r.move + 8 * Bool.toNat r.expedite)

/-! ### Bands (R83, R88) -/

def Band.ofNumber : Nat → Option Band
  | 0 => some .b0
  | 1 => some .b1
  | 2 => some .b2
  | 3 => some .b3
  | _ => none

def Band.number : Band → Nat
  | .b0 => 0
  | .b1 => 1
  | .b2 => 2
  | .b3 => 3

/-- The band as one of those served by deficit round robin; none for band 0. -/
def Band.drr : Band → Option DrrBand
  | .b0 => none
  | .b1 => some .b1
  | .b2 => some .b2
  | .b3 => some .b3

def DrrBand.band : DrrBand → Band
  | .b1 => .b1
  | .b2 => .b2
  | .b3 => .b3

def DrrBand.number (b : DrrBand) : Nat := b.band.number

/-- The order of bands is 1, 2, 3, then 1 again (R88). -/
def DrrBand.following : DrrBand → DrrBand
  | .b1 => .b2
  | .b2 => .b3
  | .b3 => .b1

def DrrCounts.get (c : DrrCounts) : DrrBand → Nat
  | .b1 => c.b1
  | .b2 => c.b2
  | .b3 => c.b3

def DrrCounts.set (c : DrrCounts) (b : DrrBand) (n : Nat) : DrrCounts :=
  match b with
  | .b1 => { c with b1 := n }
  | .b2 => { c with b2 := n }
  | .b3 => { c with b3 := n }

def ActiveLists.get (a : ActiveLists) : Band → List Nat
  | .b0 => a.b0
  | .b1 => a.b1
  | .b2 => a.b2
  | .b3 => a.b3

def ActiveLists.set (a : ActiveLists) (b : Band) (l : List Nat) : ActiveLists :=
  match b with
  | .b0 => { a with b0 := l }
  | .b1 => { a with b1 := l }
  | .b2 => { a with b2 := l }
  | .b3 => { a with b3 := l }

/-! ### Counters -/

/-- Adds one, stopping at the maximum (00_scope.md section 4.2). -/
def saturatingSucc (max n : Nat) : Nat := if n < max then n + 1 else max

/-- The next number of 1..255, wrapping 255 to 1; 0 goes to 1 (R125, R185). -/
def nextOf255 (n : Nat) : Nat := if n < 255 then n + 1 else 1

/-- Credit after an increment, saturating at 15 (R103). -/
def addCredit (credit increment : Nat) : Nat := min Config.creditMax (credit + increment)

/-- Cells of a payload: its length divided by 64, rounded up (R66). -/
def cellsOf (length : Nat) : Nat := (length + (Config.cellBytes - 1)) / Config.cellBytes

/-! ### Codes (R201, section 10.6) -/

def flagByte (b : Bool) : Byte := if b then 1 else 0

/-- FREE, RESERVED, DEFINED. -/
def slotStateCode : Option Slot → Byte
  | none => 0
  | some x =>
    match x.status with
    | .reserved _ => 1
    | .defined => 2

/-- OPEN and REVOKING; a FREE family is 0. -/
def familyStateCode : Option FamilyState → Byte
  | none => 0
  | some .opened => 1
  | some .revoking => 2

def queueStateCode : Option QueueState → Byte
  | none => 0
  | some .opened => 1
  | some .sealed => 2
  | some .purging => 3

def StationState.code : StationState → Byte
  | .absent => 0
  | .enabled => 1
  | .evicting => 2

def PortState.code : PortState → Byte
  | .down => 0
  | .idle => 1
  | .active => 2
  | .fenced => 3

def SweepSubject.kindCode : SweepSubject → Byte
  | .revoke _ => 1
  | .purge _ _ => 2
  | .evict _ => 3

def fenceCauseCode : Option FenceCause → Byte
  | none => 0
  | some .retries => 1
  | some .protocol => 2

def ClosureReason.code : ClosureReason → Byte
  | .released => 1
  | .revoked => 2

def Verdict.code : Verdict → Byte
  | .accepted => 0
  | .notEnabled => 1
  | .tooLong => 2
  | .noGrant => 3
  | .noRight => 4
  | .familyRevoked => 5
  | .queueClosed => 6
  | .budgetSpent => 7
  | .attachSame => 8
  | .attachNoGrant => 9
  | .attachNoRight => 10
  | .attachRevoked => 11
  | .attachRightsExceed => 12
  | .attachBudget => 13
  | .queueFull => 14
  | .quotaFull => 15
  | .poolEmpty => 16
  | .outOfSequence => 30
  | .malformed => 31

def Status.code : Status → Byte
  | .done => 0
  | .accepted => 1
  | .notEnabled => 2
  | .notPermitted => 3
  | .noSuch => 4
  | .badValue => 5
  | .wrongState => 6
  | .limitReached => 7
  | .storeFull => 8
  | .tableFull => 9
  | .sweepBusy => 10
  | .limitBelowUse => 11
  | .lastManager => 12
  | .reservedObject => 13
  | .unknownRequest => 14
  | .outOfSequence => 30
  | .malformed => 31

/-- DONE and ACCEPTED carry result fields; the request was carried out (R183). -/
def Status.isSuccess : Status → Bool
  | .done | .accepted => true
  | _ => false

end Sys2Proof.Machine
end

