-- ==== Sys2Proof/Machine/Frames.lean ====
section
/-! DEFINITION. The bytes of downstream frames and of report contents (R200, R201, sections 10.4 and 10.7). -/

namespace Sys2Proof.Machine

/-- A number of one byte. -/
def bytes8 (n : Nat) : List Byte := [BitVec.ofNat 8 n]

/-- A number of two bytes, most significant byte first. -/
def bytes16 (n : Nat) : List Byte := [BitVec.ofNat 8 (n / 256), BitVec.ofNat 8 n]

/-- A budget: presence, then the value; the value of an absent budget is 0 (section 10.3, R197). -/
def budgetBytes : Option Nat → List Byte
  | none => [0, 0, 0]
  | some b => 1 :: bytes16 b

/-- The value of a VERDICT (R200). -/
def VerdictValue.bytes : VerdictValue → List Byte
  | .zero => [0, 0, 0]
  | .budget b => budgetBytes b
  | .expected a => [1, 0, a]

/-- A VERDICT or RESPONSE, CRC excluded (R200). -/
def Answer.bytes : Answer → List Byte
  | .verdict session seq code value => 0x82 :: BitVec.ofNat 8 session :: seq :: code.code :: value.bytes
  | .response session seq status result =>
    0x83 :: BitVec.ofNat 8 session :: seq :: status.code :: BitVec.ofNat 8 result.length :: result

/-- A downstream LINK frame of port p, CRC excluded (R200). -/
def LinkReply.bytes (p : PortId) : LinkReply → List Byte
  | .opened session => [0x84, 1, BitVec.ofNat 8 p.val, BitVec.ofNat 8 session, 0]
  | .closed => [0x84, 2, BitVec.ofNat 8 p.val, 0, 0]
  | .pong active session => [0x84, 3, BitVec.ofNat 8 p.val, BitVec.ofNat 8 session, if active then 2 else 1]

/-- The grant section; after the outcome byte every field of WITHDRAWN and NO_ROOM is 0 (R200). -/
def GrantSection.bytes : GrantSection → List Byte
  | .pending slot rights budget tag => 1 :: (bytes16 slot ++ [rights.byte] ++ budgetBytes budget ++ bytes16 tag)
  | .withdrawn => [2, 0, 0, 0, 0, 0, 0, 0, 0]
  | .noRoom => [3, 0, 0, 0, 0, 0, 0, 0, 0]

/-- The flags of a DELIVERY: bit 0 expedite, bit 1 repeat, bit 2 grant section present (R200). -/
def DeliveryFrame.flags (f : DeliveryFrame) : Byte :=
  BitVec.ofNat 8 (Bool.toNat f.expedite + 2 * Bool.toNat f.repeated + 4 * Bool.toNat f.grant.isSome)

/-- A DELIVERY, CRC excluded (R200). -/
def DeliveryFrame.bytes (f : DeliveryFrame) : List Byte :=
  [0x81, BitVec.ofNat 8 f.session, f.seq, BitVec.ofNat 8 f.queue, BitVec.ofNat 8 f.origin, f.flags] ++
    bytes16 f.tag ++ bytes16 f.content.length ++
    (match f.grant with
      | none => []
      | some g => g.bytes) ++ f.content

/-- The subject of a sweep: A in one byte, B in two (section 10.7, R201). -/
def SweepSubject.bytes : SweepSubject → List Byte
  | .revoke f => 0 :: bytes16 f
  | .purge t q => BitVec.ofNat 8 t.val :: bytes16 q
  | .evict t => [BitVec.ofNat 8 t.val, 0, 0]

/-- The cursor: a station, then a slot or queue number (R201). -/
def Cursor.bytes : Cursor → List Byte
  | .slotPass t n => BitVec.ofNat 8 t.val :: bytes16 n
  | .queuePass t q => BitVec.ofNat 8 t.val :: bytes16 q

/-- SLOT PASS or QUEUE PASS (R201). -/
def Cursor.phaseCode : Cursor → Byte
  | .slotPass _ _ => 1
  | .queuePass _ _ => 2

/-- The content of a report with the lost-report count it carries (section 10.7). -/
def ReportContent.bytes (lost : Nat) : ReportContent → List Byte
  | .sweepComplete ticket subject slots messages =>
    [1, BitVec.ofNat 8 lost, BitVec.ofNat 8 ticket, subject.kindCode] ++ subject.bytes ++ bytes16 slots ++ bytes16 messages
  | .familyClosed family tag reason => [2, BitVec.ofNat 8 lost] ++ bytes16 family ++ bytes16 tag ++ [reason.code]
  | .portFenced port cause => [3, BitVec.ofNat 8 lost, BitVec.ofNat 8 port.val, fenceCauseCode (some cause)]

end Sys2Proof.Machine
end

