-- ==== Sys2Proof/Machine/Ops.lean ====
section
/-! DEFINITION. The named operations over the stores: grant tables and families (chapter 1), queues, descriptors and
report records (chapter 2), active lists (chapter 4), reports (chapter 7). Every block changes the stores through these.
Where a record a rule relies on is not there, which no run reaches, an operation changes nothing (log 13). -/

namespace Sys2Proof.Machine

/-! ### Access -/

def State.port (s : State) (p : PortId) : PortLink := Bank.get s.ports p

def State.setPort (s : State) (p : PortId) (x : PortLink) : State := { s with ports := Bank.set s.ports p x }

def State.window (s : State) (p : PortId) : Window := (s.port p).window

def State.setWindow (s : State) (p : PortId) (w : Window) : State := s.setPort p { s.port p with window := w }

def State.station (s : State) (t : StationId) : Station := Bank.get s.stations t

def State.setStation (s : State) (t : StationId) (x : Station) : State := { s with stations := Bank.set s.stations t x }

def State.table (s : State) (t : StationId) : Table Slot := Bank.get s.tables t

/-- Slot (t, n); none when it is FREE (R1). -/
def State.slot (s : State) (t : StationId) (n : Nat) : Option Slot := Table.find (s.table t) n

def State.family (s : State) (f : Nat) : Option Family := Table.find s.families f

def State.setFamily (s : State) (f : Nat) (x : Family) : State := { s with families := Table.put s.families f x }

/-- Queue (t, q); none when it is UNUSED (R34). -/
def State.queue (s : State) (t : StationId) (q : Nat) : Option Queue := Table.find (Bank.get s.queues t) q

def State.setQueue (s : State) (t : StationId) (q : Nat) (x : Queue) : State :=
  { s with queues := Bank.set s.queues t (Table.put (Bank.get s.queues t) q x) }

def State.scheduler (s : State) (t : StationId) : Scheduler := Bank.get s.schedulers t

def State.setScheduler (s : State) (t : StationId) (x : Scheduler) : State :=
  { s with schedulers := Bank.set s.schedulers t x }

def State.descriptor (s : State) (d : Nat) : Option Descriptor := Table.find s.descriptors d

def State.setDescriptor (s : State) (d : Nat) (x : Descriptor) : State :=
  { s with descriptors := Table.put s.descriptors d x }

def State.report (s : State) (r : Nat) : Option ReportRecord := Table.find s.reports r

def State.setReport (s : State) (r : Nat) (x : ReportRecord) : State := { s with reports := Table.put s.reports r x }

def State.isEnabled (s : State) (t : StationId) : Bool := (s.station t).state == .enabled

/-- Station t is ENABLED and holds MANAGE (R186). -/
def State.holdsManage (s : State) (t : StationId) : Bool := s.isEnabled t && (s.station t).manage

/-- The MANAGE holders counted (R186). -/
def State.manageHolders (s : State) : Nat := stationsInOrder.countP s.holdsManage

/-- Station t is ENABLED with this generation (R20, R138, R185). -/
def State.isCurrent (s : State) (t : StationId) (generation : Nat) : Bool :=
  s.isEnabled t && (s.station t).generation == generation

/-- Family f is OPEN (R14). -/
def State.familyOpen (s : State) (f : Nat) : Bool := (s.family f).any (fun x => x.state == .opened)

/-! ### Active lists (R84, R85) -/

/-- Queue q of station t joins the tail of a band's active list. -/
def State.joinActive (s : State) (t : StationId) (b : Band) (q : Nat) : State :=
  let sch := s.scheduler t
  s.setScheduler t { sch with active := sch.active.set b (sch.active.get b ++ [q]) }

/-- What the emptying of a band's active list does: its deficit becomes 0 and a visit open on it closes (R85). -/
def Scheduler.settleEmptied (sch : Scheduler) (b : Band) : Scheduler :=
  match b.drr with
  | none => sch
  | some d =>
    if (sch.active.get b).isEmpty then
      { sch with deficit := sch.deficit.set d 0, visitOpen := sch.visitOpen && sch.pointer != d }
    else sch

/-- Queue q of station t leaves a band's active list (R84, R85). -/
def State.leaveActive (s : State) (t : StationId) (b : Band) (q : Nat) : State :=
  let sch := s.scheduler t
  let sch := { sch with active := sch.active.set b ((sch.active.get b).filter (· != q)) }
  s.setScheduler t (sch.settleEmptied b)

/-- Queue q of station t is in the active list of band b (R56). -/
def State.inActive (s : State) (t : StationId) (b : Band) (q : Nat) : Bool :=
  ((s.scheduler t).active.get b).contains q

/-! ### Reports (R148, R149) -/

/-- The conditions of R148 on the reserve and on RQ 0. -/
def State.canPlace (s : State) (q : Queue) : Bool :=
  s.freeReports != 0 && q.heldMessages < Config.reportDepth

/-- Places a report in RQ 0 of station t, whose record is q (R148). The record number is the lowest FREE one (log 6). -/
def State.placeReport (s : State) (t : StationId) (q : Queue) (c : ReportContent) : State :=
  let id := Table.lowestFree s.reports 0
  let st := s.station t
  let s := s.setReport id { station := t, content := c, lostCarried := st.lostReports, repeated := false, seq := none }
  let s := { s with freeReports := s.freeReports - 1 }
  let s := s.setStation t { st with lostReports := 0 }
  let s := s.setQueue t 0
    { q with list := q.list ++ [⟨.report id, .normal⟩], heldMessages := q.heldMessages + 1 }
  if q.list.isEmpty then s.joinActive t q.band 0 else s

/-- A report that cannot be placed raises the station's lost-report count, saturating (R149). -/
def State.missReport (s : State) (t : StationId) : State :=
  let st := s.station t
  s.setStation t { st with lostReports := saturatingSucc Config.lostReportMax st.lostReports }

/-- A report called for to station t is placed or missed (R148, R149). -/
def State.callReport (s : State) (t : StationId) (c : ReportContent) : State :=
  if s.isEnabled t then
    match s.queue t 0 with
    | some q => if s.canPlace q then s.placeReport t q c else s.missReport t
    | none => s.missReport t
  else s

/-! ### Families and live counts (R15 to R20) -/

/-- Family f, whose record is x, closes: it becomes FREE and its FAMILY CLOSED report may be called for (R19, R20). -/
def State.closeFamily (s : State) (f : Nat) (x : Family) : State :=
  let s := { s with families := Table.erase s.families f }
  if x.reportOnClose && s.isCurrent x.issuer x.issuerGeneration then
    s.callReport x.issuer (.familyClosed f x.tag (if x.state == .opened then .released else .revoked))
  else s

/-- The live count of family f falls by one; at 0 the family closes in the same event (R18, R19). -/
def State.lowerLive (s : State) (f : Nat) : State :=
  match s.family f with
  | none => s
  | some x => if x.live ≤ 1 then s.closeFamily f x else s.setFamily f { x with live := x.live - 1 }

/-- The live count of family f rises by one (R16). -/
def State.raiseLive (s : State) (f : Nat) : State :=
  match s.family f with
  | none => s
  | some x => s.setFamily f { x with live := x.live + 1 }

/-! ### Slots (R1 to R5) -/

/-- Writes a slot that is not FREE. -/
def State.writeSlot (s : State) (t : StationId) (n : Nat) (x : Slot) : State :=
  { s with tables := Bank.set s.tables t (Table.put (s.table t) n x) }

/-- A slot leaves FREE: slots in use and the store use count rise by one (R4, R5). -/
def State.takeSlot (s : State) (t : StationId) (n : Nat) (x : Slot) : State :=
  let s := s.writeSlot t n x
  { s with slotsInUse := Bank.set s.slotsInUse t (Bank.get s.slotsInUse t + 1), storeUse := s.storeUse + 1 }

/-- A slot returns to FREE: slots in use and the store use count fall by one (R4, R5). -/
def State.vacateSlot (s : State) (t : StationId) (n : Nat) : State :=
  { s with
    tables := Bank.set s.tables t (Table.erase (s.table t) n)
    slotsInUse := Bank.set s.slotsInUse t (Bank.get s.slotsInUse t - 1)
    storeUse := s.storeUse - 1 }

/-- A slot, whose record is x, is freed and its family loses one copy (R18). -/
def State.freeSlot (s : State) (t : StationId) (n : Nat) (x : Slot) : State :=
  (s.vacateSlot t n).lowerLive x.family

/-- Station t's slots in use are below its grant limit (R4). -/
def State.belowGrantLimit (s : State) (t : StationId) : Bool :=
  Bank.get s.slotsInUse t < (s.station t).grantLimit

/-- The store has a free unit (R5). -/
def State.storeHasRoom (s : State) : Bool := s.storeUse < Config.storeCapacity

/-- The lowest FREE slot of station t (R3). -/
def State.lowestFreeSlot (s : State) (t : StationId) : Nat := Table.lowestFree (s.table t) 1

/-- The slot a request takes: the one it names, or the lowest FREE one when it names 0 (R3). -/
def State.chosenSlot (s : State) (t : StationId) (preferred : Nat) : Nat :=
  if preferred = 0 then s.lowestFreeSlot t else preferred

/-- The answer of the Grant Store to a reservation claim, with its effect on the slots (R21). -/
def State.reserve (s : State) (t : StationId) (d : Nat) (g : CarriedGrant) : State × CarriedState :=
  if !s.familyOpen g.family then (s, .void .revoked)
  else if !(s.belowGrantLimit t && s.storeHasRoom) then (s, .void .noRoom)
  else
    let n := s.lowestFreeSlot t
    (s.takeSlot t n ⟨.reserved d, g.family, g.rights, g.budget⟩, .reserved n)

/-- Slot (t, n) when it is RESERVED for descriptor d (R2). -/
def State.reservedSlot (s : State) (t : StationId) (n d : Nat) : Option Slot :=
  (s.slot t n).filter (fun x => x.status == .reserved d)

/-- The definition claim at acknowledgement (R22). -/
def State.definitionClaim (s : State) (t : StationId) (n d : Nat) : State :=
  match s.reservedSlot t n d with
  | none => s
  | some x =>
    if s.familyOpen x.family then s.writeSlot t n { x with status := .defined } else s.freeSlot t n x

/-- The freeing of the slot of a RESERVED grant whose descriptor is freed without acknowledgement (R2, R46). -/
def State.freeReserved (s : State) (t : StationId) (n d : Nat) : State :=
  match s.reservedSlot t n d with
  | none => s
  | some x => s.freeSlot t n x

/-- The attached grant of descriptor d becomes VOID with reason REVOKED when it is RESERVED with slot n (R2, R127). -/
def State.voidReserved (s : State) (d n : Nat) : State :=
  match s.descriptor d with
  | none => s
  | some x =>
    match x.grant with
    | none => s
    | some g =>
      if g.state == .reserved n then s.setDescriptor d { x with grant := some { g with state := .void .revoked } } else s

/-! ### Queues (R34 to R42, R50) -/

/-- A queue becomes UNUSED; for RQ 1 to 63 the RQs in use fall by one (R50). -/
def State.dropQueue (s : State) (t : StationId) (q : Nat) : State :=
  let s := { s with queues := Bank.set s.queues t (Table.erase (Bank.get s.queues t) q) }
  if q = 0 then s else { s with rqsInUse := Bank.set s.rqsInUse t (Bank.get s.rqsInUse t - 1) }

/-- A PURGING queue with its pass complete mark set and no held message becomes UNUSED (R50). -/
def State.settleQueue (s : State) (t : StationId) (q : Nat) : State :=
  match s.queue t q with
  | none => s
  | some x => if x.state == .purging && x.passComplete && x.heldMessages == 0 then s.dropQueue t q else s

/-- Where a held entry stands when it is freed (R46). -/
inductive HeldPlace where
  | listed
  | outstanding
  deriving DecidableEq, Repr

/-- Why a held entry is freed (R46). -/
inductive FreeCause where
  | acknowledged
  | withdrawn
  deriving DecidableEq, Repr

/-- One held message of `cells` cells leaves queue (t, q): held counts fall (R41, R42, R48), and the queue may become
UNUSED (R46 step 4). -/
def State.releaseHeld (s : State) (t : StationId) (q cells : Nat) (place : HeldPlace) : State :=
  match s.queue t q with
  | none => s
  | some x =>
    let out := if place = .outstanding then x.outstanding - 1 else x.outstanding
    let s := s.setQueue t q
      { x with outstanding := out, heldMessages := x.heldMessages - 1, heldCells := x.heldCells - cells }
    let s := { s with heldCells := Bank.set s.heldCells t (Bank.get s.heldCells t - cells) }
    s.settleQueue t q

/-- What the freeing of descriptor d does with its attached grant g (R46 step 1); t is the descriptor's target. -/
def State.releaseGrant (s : State) (cause : FreeCause) (d : Nat) (t : StationId) (g : CarriedGrant) : State :=
  match g.state with
  | .inTransit => s.lowerLive g.family
  | .reserved n =>
    match cause with
    | .acknowledged => s.definitionClaim t n d
    | .withdrawn => s.freeReserved t n d
  | .void _ => s

/-- Frees descriptor d, whose record is x (R46). -/
def State.freeDescriptor (s : State) (d : Nat) (x : Descriptor) (cause : FreeCause) (place : HeldPlace) : State :=
  let s :=
    match x.grant with
    | none => s
    | some g => s.releaseGrant cause d x.target g
  let s :=
    { s with
      descriptors := Table.erase s.descriptors d
      freeDescriptors := s.freeDescriptors + 1
      freeCells := s.freeCells + x.cells }
  s.releaseHeld x.target x.queue x.cells place

/-- Frees report record r, whose record is x (R46). -/
def State.freeReport (s : State) (r : Nat) (x : ReportRecord) (place : HeldPlace) : State :=
  let s := { s with reports := Table.erase s.reports r, freeReports := s.freeReports + 1 }
  s.releaseHeld x.station 0 0 place

/-- Frees a held entry (R46). -/
def State.freeEntry (s : State) (e : EntryRef) (cause : FreeCause) (place : HeldPlace) : State :=
  match e with
  | .message d =>
    match s.descriptor d with
    | none => s
    | some x => s.freeDescriptor d x cause place
  | .report r =>
    match s.report r with
    | none => s
    | some x => s.freeReport r x place

/-- The queue an entry belongs to: its descriptor's target, or RQ 0 of the report's station (R36, R43). -/
def State.entryQueue (s : State) (e : EntryRef) : Option (StationId × Nat) :=
  match e with
  | .message d => (s.descriptor d).map (fun x => (x.target, x.queue))
  | .report r => (s.report r).map (fun x => (x.station, 0))

/-- The cost of an entry: its cells, and at least 1 (R40). -/
def State.entryCost (s : State) (e : EntryRef) : Nat :=
  match e with
  | .message d => ((s.descriptor d).map (fun x => max 1 x.cells)).getD 1
  | .report _ => 1

/-- The entry's attached grant is RESERVED, so that its freeing frees a slot (R128, R135). -/
def State.holdsReserved (s : State) (e : EntryRef) : Bool :=
  match e with
  | .message d =>
    match (s.descriptor d).bind (fun x => x.grant.map (fun g => (x.target, g))) with
    | some (t, g) =>
      match g.state with
      | .reserved n => (s.reservedSlot t n d).isSome
      | _ => false
    | none => false
  | .report _ => false

/-- The place of an admitted entry: an expedited one goes after the last expedited entry, or after the returned ones,
a normal one to the tail (R38). -/
def insertAdmitted (l : List ListEntry) (e : ListEntry) : List ListEntry :=
  if e.segment = .expedited then
    l.takeWhile (fun x => x.segment != .normal) ++ e :: l.dropWhile (fun x => x.segment != .normal)
  else l ++ [e]

/-- Removes the delivery sequence of an entry (R39). -/
def State.clearSeq (s : State) (e : EntryRef) : State :=
  match e with
  | .message d =>
    match s.descriptor d with
    | none => s
    | some x => s.setDescriptor d { x with seq := none }
  | .report r =>
    match s.report r with
    | none => s
    | some x => s.setReport r { x with seq := none }

/-- Returns an outstanding entry to queue (t, q), whose record is x, behind the first k entries of its list (R39). -/
def State.returnEntry (s : State) (t : StationId) (q : Nat) (x : Queue) (e : EntryRef) (k : Nat) : State :=
  let s := s.clearSeq e
  let s := s.setQueue t q
    { x with list := x.list.take k ++ ⟨e, .returned⟩ :: x.list.drop k, outstanding := x.outstanding - 1 }
  if x.list.isEmpty then s.joinActive t x.band q else s

/-- Makes every OPEN family that satisfies a test REVOKING (R14). -/
def State.revokeFamilies (s : State) (test : Family → Bool) : State :=
  let change (x : Family) : Family := if x.state == .opened && test x then { x with state := .revoking } else x
  { s with families := Table.mapRecords s.families change }

/-- How many OPEN families satisfy a test (R132, R135). -/
def State.countOpen (s : State) (test : Family → Bool) : Nat :=
  Table.countRecords s.families (fun x => x.state == .opened && test x)

end Sys2Proof.Machine
end

