-- ==== Sys2Proof/Machine/Sessions.lean ====
section
/-! DEFINITION. The named operations over the ports: building DELIVERY frames (chapter 5), answers, the session end,
protocol errors and fencing (chapter 8). -/

namespace Sys2Proof.Machine

/-- The present session number of a port; 0 outside ACTIVE, where a port has none (R156, R200). -/
def PortLink.sessionNumber (x : PortLink) : Nat := (x.session.map Session.number).getD 0

/-! ### DELIVERY frames (R102 to R108) -/

/-- The grant section of a DELIVERY, by the attached grant's present state (R44, R105, R106). -/
def State.grantSection (s : State) (g : CarriedGrant) : Option GrantSection :=
  match g.state with
  | .inTransit => none
  | .reserved n => some (.pending n g.rights g.budget (((s.family g.family).map Family.tag).getD 0))
  | .void .revoked => some .withdrawn
  | .void .noRoom => some .noRoom

/-- The DELIVERY frame of an entry as it stands, in a session of this number (R106); none for an entry without a
delivery sequence. -/
def State.buildDelivery (s : State) (session : Nat) (e : EntryRef) : Option DeliveryFrame :=
  match e with
  | .message d =>
    match s.descriptor d with
    | none => none
    | some x => x.seq.map (fun n =>
        { session := session, seq := n, queue := x.queue, origin := x.origin.val, tag := x.tag,
          expedite := x.expedite, repeated := x.repeated, grant := x.grant.bind s.grantSection,
          content := x.payload })
  | .report r =>
    match s.report r with
    | none => none
    | some x => x.seq.map (fun n =>
        { session := session, seq := n, queue := 0, origin := Config.reportOrigin, tag := 0,
          expedite := false, repeated := x.repeated, grant := none, content := x.content.bytes x.lostCarried })

/-- Gives an entry its delivery sequence (R102). -/
def State.giveSeq (s : State) (e : EntryRef) (n : SeqNum) : State :=
  match e with
  | .message d =>
    match s.descriptor d with
    | none => s
    | some x => s.setDescriptor d { x with seq := some n }
  | .report r =>
    match s.report r with
    | none => s
    | some x => s.setReport r { x with seq := some n }

/-- Sets the repeat flag of an entry (R104). -/
def State.markRepeated (s : State) (e : EntryRef) : State :=
  match e with
  | .message d =>
    match s.descriptor d with
    | none => s
    | some x => s.setDescriptor d { x with repeated := true }
  | .report r =>
    match s.report r with
    | none => s
    | some x => s.setReport r { x with repeated := true }

/-- At a first transmission, an IN_TRANSIT grant is RESERVED or made VOID; a VOID one leaves the live count
(R21, R105). A transmission after return makes no claim (R104). -/
def State.resolveGrant (s : State) (t : StationId) (e : EntryRef) : State :=
  match e with
  | .report _ => s
  | .message d =>
    match s.descriptor d with
    | none => s
    | some x =>
      match x.grant with
      | none => s
      | some g =>
        if !x.repeated && g.state == .inTransit then
          let claim := s.reserve t d g
          let s := claim.1.setDescriptor d { x with grant := some { g with state := claim.2 } }
          match claim.2 with
          | .void _ => s.lowerLive g.family
          | _ => s
        else s

/-- The window of port p takes an entry from the scheduler and transmits it, spending one credit (R86, R102 to R108). -/
def State.transmit (s : State) (p : PortId) (e : EntryRef) : State :=
  let w := s.window p
  let s := s.giveSeq e w.nextSeq
  let s := s.resolveGrant p e
  let frame := s.buildDelivery (s.port p).sessionNumber e
  let s := s.markRepeated e
  s.setWindow p
    { w with
      outstanding := w.outstanding ++ [e]
      nextSeq := w.nextSeq + 1
      credit := w.credit - 1
      timer := if w.outstanding.isEmpty then some w.ackTimeout else w.timer
      newDeliveries := w.newDeliveries ++ frame.toList }

/-- The delivery sequence of an entry (R102). -/
def State.entrySeq (s : State) (e : EntryRef) : Option SeqNum :=
  match e with
  | .message d => (s.descriptor d).bind Descriptor.seq
  | .report r => (s.report r).bind ReportRecord.seq

/-- The outstanding entries from the oldest up to and including the one of sequence n; none when n is not outstanding
(R109). -/
def State.upToSeq (s : State) (n : SeqNum) : List EntryRef → Option (List EntryRef)
  | [] => none
  | e :: r => if s.entrySeq e = some n then some [e] else (s.upToSeq n r).map (e :: ·)

/-! ### The session end (R39, R115, R116, R161) -/

/-- A window at the end of a session: empty, with its settings kept (R116). -/
def Window.afterSession (w : Window) : Window :=
  { outstanding := [], nextSeq := 0, credit := 0, timer := none, retryCount := 0,
    ackTimeout := w.ackTimeout, retryLimit := w.retryLimit, retransmissions := [], newDeliveries := [] }

/-- How many of the entries already handed back belong to queue (t, q); the next one returned to that queue goes behind
them (R39). -/
def State.handedBack (s : State) (done : List EntryRef) (t : StationId) (q : Nat) : Nat :=
  done.countP (fun e => s.entryQueue e == some (t, q))

/-- One outstanding entry at a session end: freed when its queue is PURGING, returned to it otherwise (R115). -/
def State.handBackOne (s : State) (done : List EntryRef) (e : EntryRef) : State :=
  match s.entryQueue e with
  | none => s
  | some (t, q) =>
    match s.queue t q with
    | none => s
    | some x =>
      if x.state = .purging then s.freeEntry e .withdrawn .outstanding
      else s.returnEntry t q x e (s.handedBack done t q)

/-- The outstanding entries at a session end, oldest first (R115). -/
def State.handBack (s : State) (done : List EntryRef) : List EntryRef → State
  | [] => s
  | e :: r => (s.handBackOne done e).handBack (done ++ [e]) r

/-- A port with its session removed: ingress queue discarded, answer history cleared, answers withdrawn (R161 steps 2
to 4 and 6), window left as R116 says. The link reply is dealt with by the cause (R161 step 5). -/
def PortLink.withoutSession (x : PortLink) : PortLink :=
  { x with session := none, ingress := [], history := [], answers := [], window := x.window.afterSession }

/-- The session of port p ends, for every cause but CLEAR TABLES (R161). The port's next state is set by the cause. -/
def State.endSession (s : State) (p : PortId) : State :=
  let s := s.handBack [] (s.window p).outstanding
  s.setPort p (s.port p).withoutSession

/-! ### Fencing and protocol errors (R169, R170) -/

/-- The stations a PORT FENCED report of port p is called for to, in ascending order (R170). -/
def State.fenceRecipients (s : State) (p : PortId) : List StationId :=
  stationsInOrder.filter (fun t => s.holdsManage t && t != p)

/-- Calls for the same report to each of several stations, one after the other (R150). -/
def State.callReports (s : State) (c : ReportContent) : List StationId → State
  | [] => s
  | t :: r => (s.callReport t c).callReports c r

/-- Port p is fenced (R170). -/
def State.fence (s : State) (p : PortId) (cause : FenceCause) : State :=
  let s := s.endSession p
  let s := s.setPort p { s.port p with state := .fenced, fenceCause := some cause, linkReply := none }
  s.callReports (.portFenced p cause) (s.fenceRecipients p)

/-- A protocol error of an ACTIVE port: the count rises, and at the limit the port is fenced (R169). -/
def State.protocolError (s : State) (p : PortId) : State :=
  let x := s.port p
  if x.state = .active then
    let s := s.setPort p { x with protocolErrors := x.protocolErrors + 1 }
    if x.protocolErrors + 1 = x.protocolLimit then s.fence p .protocol else s
  else s

/-! ### Answers (R165 to R167) -/

/-- Appends an answer to the answer list (R165). -/
def State.queueAnswer (s : State) (p : PortId) (a : Answer) : State :=
  let x := s.port p
  s.setPort p { x with answers := x.answers ++ [a] }

/-- The answer history with one more entry: the oldest is removed when it holds 4 (R165). -/
def enterHistory (h : List Answer) (a : Answer) : List Answer :=
  (if h.length < Config.historyCapacity then h else h.drop 1) ++ [a]

/-- The answer of a frame taken: it joins the answer list and the answer history (R165). -/
def State.produceAnswer (s : State) (p : PortId) (a : Answer) : State :=
  let x := s.port p
  s.setPort p { x with answers := x.answers ++ [a], history := enterHistory x.history a }

def Answer.seq : Answer → SeqNum
  | .verdict _ n _ _ => n
  | .response _ n _ _ => n

/-- The answer list has room (R165, R166, R167). -/
def PortLink.answerRoom (x : PortLink) : Bool := x.answers.length < Config.answerCapacity

/-- The head frame of port p's ingress queue when it is of this kind and is offered to its taker (R165), with the state
in which it has left the queue. -/
def State.takeHeadFrame (s : State) (p : PortId) (kind : FrameKind) : Option (IngressFrame × State) :=
  let x := s.port p
  match x.ingress with
  | [] => none
  | f :: rest =>
    if f.kind = kind ∧ x.answerRoom then some (f, s.setPort p { x with ingress := rest }) else none

end Sys2Proof.Machine
end

