-- ==== Sys2Proof/Machine/Link.lean ====
section
/-! DEFINITION. The commands of the Port Link Controller (chapter 8) and RESET_N (R202): reset, signal, frame arrivals
but ACK, and egress arbitration. An arrival whose content is not the frame its row names is no event of that row and
changes nothing (log 3). -/

namespace Sys2Proof.Machine

/-- What a command's meaning answers: always a next state. -/
abbrev Step := Host.Outcome State Fault Refusal

/-! ### RESET_N (R202) -/

/-- Every block at its power-on value; the commands that wait stay (log 8). -/
def State.powerOn (s : State) : State := { State.reset with pending := s.pending }

def execResetN (s : State) : Step := .next s.powerOn

/-! ### Signal (R158) -/

def State.detectSignal (s : State) (p : PortId) : State :=
  let x := s.port p
  match x.state with
  | .down => s.setPort p { x with state := .idle }
  | .idle | .active | .fenced => s

def execSignalDetect (p : PortId) (s : State) : Step := .next (s.detectSignal p)

/-- Every frame that waits for the egress link is withdrawn and the frame on it is cut off (R158, R174). -/
def PortLink.cutOff (x : PortLink) : PortLink :=
  { x with
    answers := [], linkReply := none, line := none
    window := { x.window with retransmissions := [], newDeliveries := [] } }

def State.loseSignal (s : State) (p : PortId) : State :=
  match (s.port p).state with
  | .down => s
  | .active =>
    let s := s.endSession p
    s.setPort p { (s.port p).cutOff with state := .down }
  | .idle => s.setPort p { (s.port p).cutOff with state := .down }
  | .fenced => s.setPort p { (s.port p).cutOff with state := .down, protocolErrors := 0 }

def execSignalLoss (p : PortId) (s : State) : Step := .next (s.loseSignal p)

/-! ### Frames that are discarded (R163, R168, R169) -/

/-- A frame with a CRC error arrives (R157, R168). -/
def State.arriveCrcError (s : State) (p : PortId) : State :=
  let x := s.port p
  match x.state with
  | .down | .fenced => s
  | .idle | .active => s.setPort p { x with crcErrors := saturatingSucc Config.crcErrorMax x.crcErrors }

def execCrcErrorFrame (p : PortId) (content : List Byte) (s : State) : Step :=
  match classify content with
  | .crcError => .next (s.arriveCrcError p)
  | _ => .next s

/-- A frame that cannot be read arrives: in ACTIVE a protocol error, otherwise nothing (R157, R163). -/
def State.arriveUnreadable (s : State) (p : PortId) : State :=
  match (s.port p).state with
  | .down | .idle | .fenced => s
  | .active => s.protocolError p

def execUnreadableFrame (p : PortId) (content : List Byte) (s : State) : Step :=
  match classify content with
  | .unreadable | .badLinkOpen => .next (s.arriveUnreadable p)
  | _ => .next s

/-! ### LINK frames (R159, R160, R162) -/

/-- The port with a new session of this number (R159): the window as R116 leaves it, OPENED as the link reply. -/
def PortLink.withSession (x : PortLink) (number : Nat) : PortLink :=
  { x with
    state := .active, session := some ⟨number, 0, 0⟩, ingress := [], history := [], answers := []
    linkReply := some (.opened number), window := x.window.afterSession }

/-- LINK OPEN with a usable session number (R159). -/
def State.arriveLinkOpen (s : State) (p : PortId) (number : Nat) : State :=
  match (s.port p).state with
  | .down | .fenced => s
  | .idle => s.setPort p ((s.port p).withSession number)
  | .active =>
    let s := s.endSession p
    s.setPort p ((s.port p).withSession number)

def execLinkOpen (p : PortId) (content : List Byte) (s : State) : Step :=
  match classify content with
  | .linkOpen number => .next (s.arriveLinkOpen p number)
  | .badLinkOpen => .next (s.arriveUnreadable p)
  | _ => .next s

/-- LINK CLOSE (R160). CLOSED replaces a link reply that waits (R162). -/
def State.arriveLinkClose (s : State) (p : PortId) : State :=
  match (s.port p).state with
  | .down | .fenced => s
  | .idle => s.setPort p { s.port p with linkReply := some .closed }
  | .active =>
    let s := s.endSession p
    s.setPort p { s.port p with state := .idle, linkReply := some .closed }

def execLinkClose (p : PortId) (content : List Byte) (s : State) : Step :=
  match classify content with
  | .linkClose => .next (s.arriveLinkClose p)
  | _ => .next s

/-- A PONG is produced only when no link reply waits (R162). -/
def PortLink.withPong (x : PortLink) (active : Bool) : PortLink :=
  match x.linkReply with
  | some _ => x
  | none => { x with linkReply := some (.pong active x.sessionNumber) }

/-- LINK PING (R160). -/
def State.arriveLinkPing (s : State) (p : PortId) : State :=
  let x := s.port p
  match x.state with
  | .down | .fenced => s
  | .idle => s.setPort p (x.withPong false)
  | .active => s.setPort p (x.withPong true)

def execLinkPing (p : PortId) (content : List Byte) (s : State) : Step :=
  match classify content with
  | .linkPing => .next (s.arriveLinkPing p)
  | _ => .next s

/-! ### MESSAGE and CONTROL frames (R163, R164) -/

/-- The OUT_OF_SEQUENCE answer to a frame, carrying the expected sequence (R167). -/
def outOfSequenceAnswer (f : IngressFrame) (expected : SeqNum) : Answer :=
  match f.kind with
  | .message => .verdict f.session f.seq .outOfSequence (.expected expected)
  | .control => .response f.session f.seq .outOfSequence [expected]

/-- The sequence is one of the four before the arrival sequence that were accepted in this session (R164). -/
def Session.wasAccepted (x : Session) (n : SeqNum) : Bool :=
  let back := (x.arrival - n).toNat
  1 ≤ back && back ≤ x.accepted

/-- The answer to sequence n in the history (R164). -/
def PortLink.answered (x : PortLink) (n : SeqNum) : Option Answer := x.history.find? (fun a => a.seq == n)

/-- The sequence check on a frame of the present session (R164, R166, R167). -/
def State.checkSequence (s : State) (p : PortId) (ses : Session) (f : IngressFrame) : State :=
  let x := s.port p
  if f.seq = ses.arrival then
    if x.ingress.length < Config.ingressCapacity then
      s.setPort p
        { x with
          ingress := x.ingress ++ [f]
          session := some { ses with
            arrival := ses.arrival + 1, accepted := saturatingSucc Config.ingressCapacity ses.accepted } }
    else s.protocolError p
  else if ses.wasAccepted f.seq then
    match x.answered f.seq with
    | some a => if x.answerRoom then s.queueAnswer p a else s
    | none => s
  else if x.answerRoom then s.queueAnswer p (outOfSequenceAnswer f ses.arrival)
  else s

/-- A readable MESSAGE or CONTROL frame arrives (R157, R163 checks 4 to 6). -/
def State.arriveIngress (s : State) (p : PortId) (f : IngressFrame) : State :=
  let x := s.port p
  match x.state with
  | .down | .idle | .fenced => s
  | .active =>
    match x.session with
    | none => s
    | some ses => if f.session = ses.number then s.checkSequence p ses f else s

def execIngressArrival (p : PortId) (content : List Byte) (s : State) : Step :=
  match classify content with
  | .ingress f => .next (s.arriveIngress p f)
  | _ => .next s

/-! ### The egress link (R173) -/

/-- The frame in progress has ended, and the link is granted to the first waiting frame of the lowest-numbered class
(R173, R174). A DOWN or FENCED port sends nothing. The frame is sent with its CRC (R197). -/
def PortLink.grantEgress (x : PortLink) (p : PortId) : PortLink :=
  match x.state with
  | .down | .fenced => { x with line := none }
  | .idle | .active =>
    match x.linkReply with
    | some r => { x with line := some (sealFrame (r.bytes p)), linkReply := none }
    | none =>
      match x.answers with
      | a :: rest => { x with line := some (sealFrame a.bytes), answers := rest }
      | [] =>
        match x.window.retransmissions with
        | f :: rest =>
          { x with line := some (sealFrame f.bytes), window := { x.window with retransmissions := rest } }
        | [] =>
          match x.window.newDeliveries with
          | f :: rest =>
            { x with line := some (sealFrame f.bytes), window := { x.window with newDeliveries := rest } }
          | [] => { x with line := none }

def execEgressArbitration (p : PortId) (s : State) : Step := .next (s.setPort p ((s.port p).grantEgress p))

end Sys2Proof.Machine
end

