-- ==== Sys2Proof/Machine/Operands.lean ====
section
/-! DEFINITION. The fields of upstream frames (10_frame_formats_and_codes.md section 10.3): each is read from its bytes,
none where the encoding is one its field does not define (R199). -/

namespace Sys2Proof.Machine

/-- A number sent most significant byte first. -/
def number16 (hi lo : Byte) : Nat := hi.toNat * 256 + lo.toNat

/-- A rights byte: bits 4..7 must be 0 (R199). -/
def readRights (b : Byte) : Option Rights :=
  if b.toNat < 16 then some ⟨b.getLsbD 0, b.getLsbD 1, b.getLsbD 2, b.getLsbD 3⟩ else none

/-- A flag or choice byte (R199). -/
def readFlag (b : Byte) : Option Bool :=
  if b = 0#8 then some false else if b = 1#8 then some true else none

/-- A budget of three bytes; the value is ignored when absent (section 10.3). -/
def readBudget (presence hi lo : Byte) : Option (Option Nat) :=
  if presence = 0#8 then some none
  else if presence = 1#8 then some (some (number16 hi lo))
  else none

/-! ### The MESSAGE frame (R198, R64) -/

/-- An attach section (R70, R71). -/
inductive Attach where
  | share (slot : Nat) (rights : Rights) (budget : Option Nat)
  | move (slot : Nat)
  deriving DecidableEq, Repr

/-- A well-formed MESSAGE frame's request. -/
structure MessageRequest where
  slot : Nat
  expedite : Bool
  attach : Option Attach
  payload : List Byte
  deriving DecidableEq, Repr

/-- The attach section's seven bytes; none makes the frame MALFORMED. With MOVE the rights and budget bytes are not
examined (R64, R199). -/
def readAttach (s1 s0 mode rights b2 b1 b0 : Byte) : Option Attach :=
  let slot := number16 s1 s0
  if slot = 0 then none
  else if mode = 1#8 then
    match readRights rights, readBudget b2 b1 b0 with
    | some r, some budget => if r.isEmpty || budget == some 0 then none else some (.share slot r budget)
    | _, _ => none
  else if mode = 2#8 then some (.move slot)
  else none

/-- The attach section, when the indicator says it is present, and the payload after it (R198). -/
def readAttached (indicator : Byte) (rest : List Byte) : Option (Option Attach × List Byte) :=
  if indicator = 0#8 then some (none, rest)
  else if indicator = 1#8 then
    match rest with
    | s1 :: s0 :: mode :: rights :: b2 :: b1 :: b0 :: payload =>
      (readAttach s1 s0 mode rights b2 b1 b0).map (fun a => (some a, payload))
    | _ => none
  else none

/-- The bytes of a MESSAGE frame after its sequence; none when the frame is MALFORMED (R64, R199). -/
def readMessage : List Byte → Option MessageRequest
  | s1 :: s0 :: exp :: ind :: l1 :: l0 :: rest =>
    match readFlag exp, readAttached ind rest with
    | some expedite, some (attach, payload) =>
      if number16 s1 s0 = 0 || payload.length != number16 l1 l0 then none
      else some ⟨number16 s1 s0, expedite, attach, payload⟩
    | _, _ => none
  | _ => none

/-! ### CONTROL parameters (section 10.5)

A numeric field keeps the number its bytes hold; whether it is in range is judged at check 5 of R181. -/

structure IssueGrantParams where
  queue : Nat
  rights : Rights
  budget : Option Nat
  tag : Nat
  reportOnClose : Bool
  preferred : Nat
  deriving DecidableEq, Repr

def readIssueGrant : List Byte → Option IssueGrantParams
  | [q, r, b2, b1, b0, t1, t0, f, p1, p0] =>
    match readRights r, readBudget b2 b1 b0, readFlag f with
    | some rights, some budget, some flag => some ⟨q.toNat, rights, budget, number16 t1 t0, flag, number16 p1 p0⟩
    | _, _, _ => none
  | _ => none

structure InstallGrantParams where
  station : Nat
  family : Nat
  rights : Rights
  budget : Option Nat
  preferred : Nat
  deriving DecidableEq, Repr

def readInstallGrant : List Byte → Option InstallGrantParams
  | [t, f1, f0, r, b2, b1, b0, p1, p0] =>
    match readRights r, readBudget b2 b1 b0 with
    | some rights, some budget => some ⟨t.toNat, number16 f1 f0, rights, budget, number16 p1 p0⟩
    | _, _ => none
  | _ => none

/-- No parameters. -/
def readNothing : List Byte → Option Unit
  | [] => some ()
  | _ => none

/-- One number of one byte. -/
def readByte : List Byte → Option Nat
  | [a] => some a.toNat
  | _ => none

/-- One number of two bytes. -/
def readWord : List Byte → Option Nat
  | [a1, a0] => some (number16 a1 a0)
  | _ => none

/-- Two numbers of one byte each. -/
def readTwoBytes : List Byte → Option (Nat × Nat)
  | [a, b] => some (a.toNat, b.toNat)
  | _ => none

/-- Three numbers of one byte each. -/
def readThreeBytes : List Byte → Option (Nat × Nat × Nat)
  | [a, b, c] => some (a.toNat, b.toNat, c.toNat)
  | _ => none

/-- One byte, then a number of two bytes. -/
def readByteWord : List Byte → Option (Nat × Nat)
  | [a, b1, b0] => some (a.toNat, number16 b1 b0)
  | _ => none

/-- One byte and a choice. -/
def readByteChoice : List Byte → Option (Nat × Bool)
  | [a, c] => (readFlag c).map (fun v => (a.toNat, v))
  | _ => none

structure PortLimitParams where
  port : Nat
  limit : Nat
  clearCrc : Bool
  deriving DecidableEq, Repr

def readPortLimit : List Byte → Option PortLimitParams
  | [p, l, c] => (readFlag c).map (fun v => ⟨p.toNat, l.toNat, v⟩)
  | _ => none

structure LimitsParams where
  station : Nat
  grantLimit : Nat
  queueLimit : Nat
  cellQuota : Nat
  deriving DecidableEq, Repr

def readLimits : List Byte → Option LimitsParams
  | [t, g1, g0, q, c1, c0] => some ⟨t.toNat, number16 g1 g0, q.toNat, number16 c1 c0⟩
  | _ => none

structure EnableParams where
  limits : LimitsParams
  manage : Bool
  deriving DecidableEq, Repr

def readEnable : List Byte → Option EnableParams
  | [t, g1, g0, q, c1, c0, m] =>
    (readFlag m).map (fun v => ⟨⟨t.toNat, number16 g1 g0, q.toNat, number16 c1 c0⟩, v⟩)
  | _ => none

/-- A station or port number as one of the eight; none above 7. -/
def asStation (n : Nat) : Option StationId := if h : n < 8 then some ⟨n, h⟩ else none

/-- The limits R187 and R189 allow. -/
def LimitsParams.inRange (l : LimitsParams) : Bool :=
  l.station ≤ 7 && l.grantLimit ≤ Config.slotsPerTable && l.queueLimit ≤ Config.lastQueue &&
    l.cellQuota ≤ Config.cellCapacity

end Sys2Proof.Machine
end

