-- ==== Sys2Proof/Machine/Admission.lean ====
section
/-! DEFINITION. ADMISSION (chapter 3): the checks of R63 in their order, the commit of R76 and R77, the VERDICT of
R78. -/

namespace Sys2Proof.Machine

/-- Slot (t, n) when it is DEFINED (R67, R70). -/
def State.definedSlot (s : State) (t : StationId) (n : Nat) : Option Slot :=
  (s.slot t n).filter (fun x => x.status == .defined)

/-- Check 9.6 on a SHARE: the source budget B, the copy's budget b (R72). -/
def shareBudgetAllowed (same : Bool) : Option Nat → Option Nat → Bool
  | none, _ => true
  | some _, none => false
  | some source, some b => if same then b + 1 ≤ source else b ≤ source

/-- Checks 9.1 to 9.6 for sender t whose sending slot is `sending`; none when all pass (R70 to R72). -/
def State.attachFailure (s : State) (t : StationId) (sending : Nat) : Attach → Option Verdict
  | .move n =>
    if n = sending then some .attachSame
    else
      match s.definedSlot t n with
      | none => some .attachNoGrant
      | some x =>
        if !x.rights.move then some .attachNoRight
        else if !s.familyOpen x.family then some .attachRevoked
        else none
  | .share n rights budget =>
    match s.definedSlot t n with
    | none => some .attachNoGrant
    | some x =>
      if !x.rights.share then some .attachNoRight
      else if !s.familyOpen x.family then some .attachRevoked
      else if !rights.within x.rights then some .attachRightsExceed
      else if !shareBudgetAllowed (n == sending) x.budget budget then some .attachBudget
      else none

/-- Checks 10 to 12 on the target queue q of station t (R73 to R75). -/
def State.roomFailure (s : State) (t : StationId) (q : Queue) (cells : Nat) : Option Verdict :=
  if q.depth ≤ q.heldMessages then some .queueFull
  else if (s.station t).cellQuota < Bank.get s.heldCells t + cells then some .quotaFull
  else if s.freeDescriptors = 0 ∨ s.freeCells < cells then some .poolEmpty
  else none

/-- What an admission that passes every check commits with: the sending slot, its family, the target queue. -/
structure AdmissionContext where
  slot : Slot
  family : Family
  queue : Queue
  deriving DecidableEq, Repr

/-- Checks 2 to 12 of R63 on a well-formed frame from station t: the first failing check's verdict, or what the commit
needs. -/
def State.admissionChecks (s : State) (t : StationId) (m : MessageRequest) : Except Verdict AdmissionContext :=
  if !s.isEnabled t then .error .notEnabled
  else if Config.payloadMax < m.payload.length then .error .tooLong
  else
    match s.definedSlot t m.slot with
    | none => .error .noGrant
    | some x =>
      if !x.rights.send || (m.expedite && !x.rights.expedite) then .error .noRight
      else
        match (s.family x.family).filter (fun f => f.state == .opened) with
        | none => .error .familyRevoked
        | some f =>
          match (s.queue f.issuer f.target).filter (fun q => q.state == .opened) with
          | none => .error .queueClosed
          | some q =>
            if x.budget = some 0 then .error .budgetSpent
            else
              match m.attach.bind (s.attachFailure t m.slot) with
              | some v => .error v
              | none =>
                match s.roomFailure f.issuer q (cellsOf m.payload.length) with
                | some v => .error v
                | none => .ok ⟨x, f, q⟩

/-- Lowers a finite budget of slot (t, n) by b; an absent budget is not changed (R8, R76). -/
def State.spend (s : State) (t : StationId) (n b : Nat) : State :=
  match s.slot t n with
  | none => s
  | some x => s.writeSlot t n { x with budget := x.budget.map (· - b) }

/-- What the attach section does to the carried slot and its family, with the IN_TRANSIT grant that travels (R76 steps
2 and 3, R77). -/
def State.attachGrant (s : State) (t : StationId) : Option Attach → State × Option CarriedGrant
  | none => (s, none)
  | some (.share n rights budget) =>
    match s.slot t n with
    | none => (s, none)
    | some x =>
      let s := s.spend t n (budget.getD 0)
      (s.raiseLive x.family, some ⟨x.family, rights, budget, .inTransit⟩)
  | some (.move n) =>
    match s.slot t n with
    | none => (s, none)
    | some x => (s.vacateSlot t n, some ⟨x.family, x.rights, x.budget, .inTransit⟩)

/-- Claims the lowest free descriptor (log 6) and the cells for a message, and lists it in queue (t, q), whose record is
x (R47, R77, R38). -/
def State.listMessage (s : State) (t : StationId) (q : Nat) (x : Queue) (d : Descriptor) : State :=
  let id := Table.lowestFree s.descriptors 0
  let s := s.setDescriptor id d
  let s := { s with freeDescriptors := s.freeDescriptors - 1, freeCells := s.freeCells - d.cells }
  let segment := if d.expedite then Segment.expedited else Segment.normal
  let s := s.setQueue t q
    { x with
      list := insertAdmitted x.list ⟨.message id, segment⟩
      heldMessages := x.heldMessages + 1
      heldCells := x.heldCells + d.cells }
  let s := { s with heldCells := Bank.set s.heldCells t (Bank.get s.heldCells t + d.cells) }
  if x.list.isEmpty then s.joinActive t x.band q else s

/-- The commit of an admission from station t (R76, R77). -/
def State.commitMessage (s : State) (t : StationId) (m : MessageRequest) (c : AdmissionContext) : State :=
  let attached := (s.spend t m.slot 1).attachGrant t m.attach
  attached.1.listMessage c.family.issuer c.family.target c.queue
    { origin := t, target := c.family.issuer, queue := c.family.target, tag := c.family.tag,
      expedite := m.expedite, repeated := false, payload := m.payload, cells := cellsOf m.payload.length,
      seq := none, grant := attached.2 }

/-- A MESSAGE frame of station t that has left its ingress queue is checked, committed or refused, and answered
(R61 to R64, R78). -/
def State.answerMessage (s : State) (t : StationId) (f : IngressFrame) : State :=
  match readMessage f.body with
  | none => (s.produceAnswer t (.verdict f.session f.seq .malformed .zero)).protocolError t
  | some m =>
    match s.admissionChecks t m with
    | .error v => s.produceAnswer t (.verdict f.session f.seq v .zero)
    | .ok c =>
      let s := s.commitMessage t m c
      let left := (s.slot t m.slot).bind Slot.budget
      s.produceAnswer t (.verdict f.session f.seq .accepted (.budget left))

def execAdmission (p : PortId) (s : State) : Step :=
  match s.takeHeadFrame p .message with
  | none => .next s
  | some (f, s') => .next (s'.answerMessage p f)

end Sys2Proof.Machine
end

