-- ==== Sys2Proof/Machine/Control.lean ====
section
/-! DEFINITION. The Control Path (chapter 9): the taking of a CONTROL frame, the checks of R181 in their order, the
RESPONSE, and UNKNOWN_REQUEST. Each request's own row gives its code, its parameters, its permission class, its ranges
and its owning rule. -/

namespace Sys2Proof.Machine

/-- What an owning rule answers: a status, the result fields, and the state it leaves (R183). -/
structure Reply where
  status : Status
  result : List Byte
  state : State
  deriving DecidableEq, Repr

/-- A refusal changes nothing and carries no result fields (R183). -/
def Reply.refuse (s : State) (status : Status) : Reply := ⟨status, [], s⟩

/-- One request of the catalogue. -/
structure Request (α : Type) where
  /-- Request code (section 10.5). -/
  code : Nat
  /-- Parameter length (section 10.5). -/
  length : Nat
  /-- The parameters; none where a field holds an encoding it does not define (R181 check 1). -/
  read : List Byte → Option α
  /-- Check 3 does not apply (READ DEVICE, R182). -/
  anyStation : Bool := false
  /-- The permission class (R182). -/
  permitted : State → StationId → α → Bool
  /-- The ranges of check 5. -/
  inRange : α → Bool
  /-- The owning rule. -/
  work : State → StationId → α → Reply
  /-- What the request does after its RESPONSE is produced (CLEAR TABLES, R193). -/
  finish : State → StationId → State := fun s _ => s

/-! ### Permission classes (R182) -/

def permitAny {α : Type} (_ : State) (_ : StationId) (_ : α) : Bool := true

def permitManage {α : Type} (s : State) (t : StationId) (_ : α) : Bool := s.holdsManage t

/-- SELF when the named station or port is the requester's own, MANAGE otherwise. -/
def permitSelfOr (s : State) (t : StationId) (n : Nat) : Bool := n == t.val || s.holdsManage t

/-- The issuer of the same generation, or MANAGE (R30). -/
def permitIssuer (s : State) (t : StationId) (f : Nat) : Bool :=
  s.holdsManage t ||
    (s.family f).any (fun x => x.issuer == t && x.issuerGeneration == (s.station t).generation)

/-! ### The checks (R181) -/

/-- Checks 3 to 5, then the owning rule. -/
def Request.decide {α : Type} (r : Request α) (s : State) (t : StationId) (a : α) : Reply :=
  if !r.anyStation && !s.isEnabled t then Reply.refuse s .notEnabled
  else if !r.permitted s t a then Reply.refuse s .notPermitted
  else if !r.inRange a then Reply.refuse s .badValue
  else r.work s t a

/-- Check 1 on the parameter length field and the parameters, of a known request. -/
def Request.parameters {α : Type} (r : Request α) (length : Nat) (params : List Byte) : Option α :=
  if length = params.length ∧ length = r.length then r.read params else none

/-- A MALFORMED RESPONSE, which is a protocol error (R181, R169). -/
def State.answerMalformed (s : State) (p : PortId) (f : IngressFrame) : State :=
  (s.produceAnswer p (.response f.session f.seq .malformed [])).protocolError p

/-- A CONTROL frame of this request that has left the ingress queue is checked, carried out and answered (R180). -/
def Request.answer {α : Type} (r : Request α) (s : State) (p : PortId) (f : IngressFrame) (length : Nat)
    (params : List Byte) : State :=
  match r.parameters length params with
  | none => s.answerMalformed p f
  | some a =>
    let reply := r.decide s p a
    let s := reply.state.produceAnswer p (.response f.session f.seq reply.status reply.result)
    if reply.status.isSuccess then r.finish s p else s

/-- The Control Path takes the head frame of port p's ingress queue when it is a CONTROL frame of this request; when it
is not, or the answer list is full, nothing happens (R165, R180; log 2). -/
def Request.take {α : Type} (r : Request α) (p : PortId) (s : State) : State :=
  match s.takeHeadFrame p .control with
  | none => s
  | some (f, s') =>
    match f.body with
    | code :: length :: params => if code.toNat = r.code then r.answer s' p f length.toNat params else s
    | _ => s

/-- The codes of the request catalogue (section 10.5). -/
def catalogue : List Nat :=
  [0x10, 0x11, 0x12, 0x13, 0x14, 0x20, 0x21, 0x22, 0x23, 0x24, 0x25, 0x28, 0x29, 0x30, 0x38, 0x39, 0x3A, 0x3B,
   0x40, 0x41, 0x42, 0x48, 0x49, 0x4A, 0x4B, 0x4C, 0x4F]

/-- The taking of a CONTROL frame whose code is not in the catalogue (R181 checks 1 and 2). -/
def State.takeUnknown (s : State) (p : PortId) : State :=
  match s.takeHeadFrame p .control with
  | none => s
  | some (f, s') =>
    match f.body with
    | code :: length :: params =>
      if catalogue.contains code.toNat then s
      else if length.toNat = params.length then
        s'.produceAnswer p (.response f.session f.seq .unknownRequest [])
      else s'.answerMalformed p f
    | _ => s

def execUnknownRequest (p : PortId) (s : State) : Step := .next (s.takeUnknown p)

end Sys2Proof.Machine
end

