-- ==== Sys2Proof/Machine/Grants.lean ====
section
/-! DEFINITION. The requests of chapter 1: ISSUE GRANT, DROP GRANT, INSTALL GRANT, READ GRANT, READ FAMILY. -/

namespace Sys2Proof.Machine

/-! ### ISSUE GRANT (R24, R25) -/

/-- The checks of R24 in order. -/
def State.issueFailure (s : State) (t : StationId) (a : IssueGrantParams) : Option Status :=
  if a.queue = 0 then some .reservedObject
  else
    match s.queue t a.queue with
    | none => some .noSuch
    | some q =>
      if q.state = .purging then some .wrongState
      else if a.preferred ≠ 0 ∧ (s.slot t a.preferred).isSome then some .wrongState
      else if !s.belowGrantLimit t then some .limitReached
      else if !s.storeHasRoom then some .storeFull
      else if Config.familyCapacity < Table.lowestFree s.families 1 then some .tableFull
      else none

/-- The new family and its first slot (R25). -/
def State.issueGrant (s : State) (t : StationId) (a : IssueGrantParams) : Reply :=
  match s.issueFailure t a with
  | some status => Reply.refuse s status
  | none =>
    let f := Table.lowestFree s.families 1
    let n := s.chosenSlot t a.preferred
    let s := s.setFamily f
      { state := .opened, issuer := t, issuerGeneration := (s.station t).generation, target := a.queue,
        ceiling := a.rights, tag := a.tag, reportOnClose := a.reportOnClose, live := 1 }
    let s := s.takeSlot t n ⟨.defined, f, a.rights, a.budget⟩
    ⟨.done, bytes16 n ++ bytes16 f, s⟩

def issueGrantRequest : Request IssueGrantParams where
  code := 0x10
  length := 10
  read := readIssueGrant
  permitted := permitAny
  inRange a :=
    a.queue ≤ Config.lastQueue && !a.rights.isEmpty && a.budget != some 0 && a.preferred ≤ Config.slotsPerTable
  work := State.issueGrant

def execIssueGrant (p : PortId) (s : State) : Step := .next (issueGrantRequest.take p s)

/-! ### DROP GRANT (R26) -/

def State.dropGrant (s : State) (t : StationId) (n : Nat) : Reply :=
  match s.slot t n with
  | none => Reply.refuse s .noSuch
  | some x =>
    match x.status with
    | .reserved _ => Reply.refuse s .wrongState
    | .defined =>
      let left := ((s.family x.family).map (fun f => f.live - 1)).getD 0
      ⟨.done, bytes16 x.family ++ bytes16 left, s.freeSlot t n x⟩

def dropGrantRequest : Request Nat where
  code := 0x11
  length := 2
  read := readWord
  permitted := permitAny
  inRange n := 1 ≤ n && n ≤ Config.slotsPerTable
  work := State.dropGrant

def execDropGrant (p : PortId) (s : State) : Step := .next (dropGrantRequest.take p s)

/-! ### INSTALL GRANT (R27, R28) -/

def State.installInto (s : State) (t : StationId) (a : InstallGrantParams) : Reply :=
  if !s.isEnabled t then Reply.refuse s .wrongState
  else
    match s.family a.family with
    | none => Reply.refuse s .noSuch
    | some f =>
      if f.state = .revoking then Reply.refuse s .wrongState
      else if !a.rights.within f.ceiling then Reply.refuse s .badValue
      else if a.preferred ≠ 0 ∧ (s.slot t a.preferred).isSome then Reply.refuse s .wrongState
      else if !s.belowGrantLimit t then Reply.refuse s .limitReached
      else if !s.storeHasRoom then Reply.refuse s .storeFull
      else
        let n := s.chosenSlot t a.preferred
        let s := s.takeSlot t n ⟨.defined, a.family, a.rights, a.budget⟩
        ⟨.done, bytes16 n ++ bytes16 (f.live + 1), s.raiseLive a.family⟩

/-- A request that names one of the eight stations or ports; a number above 7 has been answered BAD_VALUE before. -/
def withStation (s : State) (n : Nat) (work : StationId → Reply) : Reply :=
  match asStation n with
  | none => Reply.refuse s .badValue
  | some t => work t

def installGrantRequest : Request InstallGrantParams where
  code := 0x12
  length := 9
  read := readInstallGrant
  permitted := permitManage
  inRange a :=
    a.station ≤ 7 && 1 ≤ a.family && a.family ≤ Config.familyCapacity && !a.rights.isEmpty && a.budget != some 0 &&
      a.preferred ≤ Config.slotsPerTable
  work s _ a := withStation s a.station (fun t => s.installInto t a)

def execInstallGrant (p : PortId) (s : State) : Step := .next (installGrantRequest.take p s)

/-! ### READ GRANT (R29) -/

/-- The fields of a slot that is not FREE, with its family's state, tag and target (R29). -/
def State.slotFields (s : State) (x : Slot) : List Byte :=
  let f := s.family x.family
  bytes16 x.family ++ [x.rights.byte] ++ budgetBytes x.budget ++ [familyStateCode (f.map Family.state)] ++
    bytes16 ((f.map Family.tag).getD 0) ++ bytes8 ((f.map (fun y => y.issuer.val)).getD 0) ++
    bytes8 ((f.map Family.target).getD 0)

def State.readGrant (s : State) (t : StationId) (n : Nat) : Reply :=
  let x := s.slot t n
  let fields :=
    match x with
    | none => []
    | some y => s.slotFields y
  ⟨.done, slotStateCode x :: (fields ++ bytes16 (Bank.get s.slotsInUse t) ++ bytes16 (s.station t).grantLimit ++
    bytes16 s.storeUse), s⟩

def readGrantRequest : Request (Nat × Nat) where
  code := 0x13
  length := 3
  read := readByteWord
  permitted s t a := permitSelfOr s t a.1
  inRange a := a.1 ≤ 7 && 1 ≤ a.2 && a.2 ≤ Config.slotsPerTable
  work s _ a := withStation s a.1 (fun t => s.readGrant t a.2)

def execReadGrant (p : PortId) (s : State) : Step := .next (readGrantRequest.take p s)

/-! ### READ FAMILY (R30) -/

def State.readFamily (s : State) (_ : StationId) (f : Nat) : Reply :=
  match s.family f with
  | none => Reply.refuse s .noSuch
  | some x =>
    ⟨.done, familyStateCode (some x.state) :: (bytes8 x.issuer.val ++ bytes8 x.issuerGeneration ++ bytes8 x.target ++
      [x.ceiling.byte] ++ bytes16 x.tag ++ [flagByte x.reportOnClose] ++ bytes16 x.live), s⟩

def readFamilyRequest : Request Nat where
  code := 0x14
  length := 2
  read := readWord
  permitted := permitIssuer
  inRange f := 1 ≤ f && f ≤ Config.familyCapacity
  work := State.readFamily

def execReadFamily (p : PortId) (s : State) : Step := .next (readFamilyRequest.take p s)

end Sys2Proof.Machine
end

