-- ==== Sys2Proof/Machine/Queues.lean ====
section
/-! DEFINITION. The requests of chapter 2: OPEN QUEUE, SEAL QUEUE, UNSEAL QUEUE, SET DEPTH, READ QUEUE, READ POOL. -/

namespace Sys2Proof.Machine

/-! ### OPEN QUEUE (R51, R52) -/

/-- A queue, a band number and a depth limit, as OPEN QUEUE carries them. -/
def State.openQueue (s : State) (t : StationId) (a : Nat × Nat × Nat) : Reply :=
  match Band.ofNumber a.2.1 with
  | none => Reply.refuse s .badValue
  | some band =>
    let inUse := Bank.get s.rqsInUse t
    let limit := (s.station t).queueLimit
    if a.1 ≠ 0 ∧ (s.queue t a.1).isSome then Reply.refuse s .wrongState
    else if limit ≤ inUse then Reply.refuse s .limitReached
    else
      let q := if a.1 = 0 then Table.lowestFree (Bank.get s.queues t) 1 else a.1
      let s := s.setQueue t q (Queue.fresh band a.2.2)
      ⟨.done, bytes8 q ++ bytes8 (inUse + 1) ++ bytes8 limit,
        { s with rqsInUse := Bank.set s.rqsInUse t (inUse + 1) }⟩

def openQueueRequest : Request (Nat × Nat × Nat) where
  code := 0x20
  length := 3
  read := readThreeBytes
  permitted := permitAny
  inRange a := a.1 ≤ Config.lastQueue && a.2.1 ≤ 3 && 1 ≤ a.2.2
  work := State.openQueue

def execOpenQueue (p : PortId) (s : State) : Step := .next (openQueueRequest.take p s)

/-! ### SEAL QUEUE and UNSEAL QUEUE (R53, R54) -/

/-- Queue (t, q) goes from one state to another; refused when it is in a third (R53, R54). -/
def State.changeSeal (s : State) (t : StationId) (q : Nat) (source target : QueueState) : Reply :=
  if q = 0 then Reply.refuse s .reservedObject
  else
    match s.queue t q with
    | none => Reply.refuse s .noSuch
    | some x =>
      if x.state = source then ⟨.done, bytes8 x.heldMessages, s.setQueue t q { x with state := target }⟩
      else Reply.refuse s .wrongState

def sealQueueRequest : Request Nat where
  code := 0x21
  length := 1
  read := readByte
  permitted := permitAny
  inRange q := q ≤ Config.lastQueue
  work s t q := s.changeSeal t q .opened .sealed

def execSealQueue (p : PortId) (s : State) : Step := .next (sealQueueRequest.take p s)

def unsealQueueRequest : Request Nat where
  code := 0x22
  length := 1
  read := readByte
  permitted := permitAny
  inRange q := q ≤ Config.lastQueue
  work s t q := s.changeSeal t q .sealed .opened

def execUnsealQueue (p : PortId) (s : State) : Step := .next (unsealQueueRequest.take p s)

/-! ### SET DEPTH (R55) -/

def State.setDepth (s : State) (t : StationId) (a : Nat × Nat) : Reply :=
  if a.1 = 0 then Reply.refuse s .reservedObject
  else
    match s.queue t a.1 with
    | none => Reply.refuse s .noSuch
    | some x =>
      if x.state = .purging then Reply.refuse s .wrongState
      else if a.2 < x.heldMessages then Reply.refuse s .limitBelowUse
      else ⟨.done, bytes8 a.2 ++ bytes8 x.heldMessages, s.setQueue t a.1 { x with depth := a.2 }⟩

def setDepthRequest : Request (Nat × Nat) where
  code := 0x23
  length := 2
  read := readTwoBytes
  permitted := permitAny
  inRange a := a.1 ≤ Config.lastQueue && 1 ≤ a.2
  work := State.setDepth

def execSetDepth (p : PortId) (s : State) : Step := .next (setDepthRequest.take p s)

/-! ### READ QUEUE (R56) -/

/-- The entries of a list that stand in a segment (R37). -/
def Queue.segmentCount (x : Queue) (g : Segment) : Nat := x.list.countP (fun e => e.segment == g)

/-- The fields of a queue that is not UNUSED (R56). -/
def State.queueFields (s : State) (t : StationId) (q : Nat) (x : Queue) : List Byte :=
  bytes8 x.band.number ++ bytes8 x.depth ++ bytes8 (x.segmentCount .returned) ++ bytes8 (x.segmentCount .expedited) ++
    bytes8 (x.segmentCount .normal) ++ bytes8 x.outstanding ++ bytes8 x.heldMessages ++ bytes16 x.heldCells ++
    [flagByte (s.inActive t x.band q)] ++ (if x.state = .purging then [flagByte x.passComplete] else [])

def State.readQueue (s : State) (t : StationId) (q : Nat) : Reply :=
  let x := s.queue t q
  let fields :=
    match x with
    | none => []
    | some y => s.queueFields t q y
  ⟨.done, queueStateCode (x.map Queue.state) :: (fields ++ bytes8 (Bank.get s.rqsInUse t) ++
    bytes8 (s.station t).queueLimit ++ bytes16 (Bank.get s.heldCells t) ++ bytes16 (s.station t).cellQuota), s⟩

def readQueueRequest : Request (Nat × Nat) where
  code := 0x24
  length := 2
  read := readTwoBytes
  permitted s t a := permitSelfOr s t a.1
  inRange a := a.1 ≤ 7 && a.2 ≤ Config.lastQueue
  work s _ a := withStation s a.1 (fun t => s.readQueue t a.2)

def execReadQueue (p : PortId) (s : State) : Step := .next (readQueueRequest.take p s)

/-! ### READ POOL (R57) -/

/-- A descriptor or report record that is not FREE is outstanding while it has a delivery sequence (R43, R147). -/
def State.readPool (s : State) (t : StationId) : Reply :=
  ⟨.done, bytes16 s.freeDescriptors ++ bytes16 s.freeCells ++ bytes8 s.freeReports ++
    bytes16 (Table.countRecords s.descriptors (fun d => d.seq.isNone)) ++
    bytes8 (Table.countRecords s.descriptors (fun d => d.seq.isSome)) ++
    bytes8 (Table.countRecords s.reports (fun r => r.seq.isNone)) ++
    bytes8 (Table.countRecords s.reports (fun r => r.seq.isSome)) ++
    bytes16 (Bank.get s.heldCells t) ++ bytes16 (s.station t).cellQuota, s⟩

def readPoolRequest : Request Unit where
  code := 0x25
  length := 0
  read := readNothing
  permitted := permitAny
  inRange _ := true
  work s t _ := s.readPool t

def execReadPool (p : PortId) (s : State) : Step := .next (readPoolRequest.take p s)

end Sys2Proof.Machine
end

