-- ==== Sys2Proof/Machine/Scheduling.lean ====
section
/-! DEFINITION. The Delivery Scheduler (chapter 4): SET BAND, SET QUANTA and SELECTION. -/

namespace Sys2Proof.Machine

/-! ### SET BAND (R94, R95) -/

/-- Band n is recorded for queue (t, q), whose record is x, and its place in the active lists moves (R95). -/
def State.moveBand (s : State) (t : StationId) (q : Nat) (x : Queue) (n : Band) : State :=
  let recorded := s.setQueue t q { x with band := n }
  if n = x.band then recorded
  else if s.inActive t x.band q then (recorded.leaveActive t x.band q).joinActive t n q
  else recorded

def State.setBand (s : State) (t : StationId) (a : Nat × Nat) : Reply :=
  match Band.ofNumber a.2 with
  | none => Reply.refuse s .badValue
  | some n =>
    if a.1 = 0 then Reply.refuse s .reservedObject
    else
      match s.queue t a.1 with
      | none => Reply.refuse s .noSuch
      | some x =>
        if x.state = .purging then Reply.refuse s .wrongState
        else
          let s := s.moveBand t a.1 x n
          ⟨.done, bytes8 x.band.number ++ bytes8 n.number ++ [flagByte (s.inActive t n a.1)], s⟩

def setBandRequest : Request (Nat × Nat) where
  code := 0x28
  length := 2
  read := readTwoBytes
  permitted := permitAny
  inRange a := a.1 ≤ Config.lastQueue && a.2 ≤ 3
  work := State.setBand

def execSetBand (p : PortId) (s : State) : Step := .next (setBandRequest.take p s)

/-! ### SET QUANTA (R96) -/

def drrBytes (c : DrrCounts) : List Byte := bytes8 c.b1 ++ bytes8 c.b2 ++ bytes8 c.b3

def State.setQuanta (s : State) (t : StationId) (a : Nat × Nat × Nat) : Reply :=
  let quanta : DrrCounts := ⟨a.1, a.2.1, a.2.2⟩
  let sch := s.scheduler t
  ⟨.done, drrBytes quanta ++ drrBytes sch.deficit ++ bytes8 sch.pointer.number,
    s.setStation t { s.station t with quanta := quanta }⟩

def setQuantaRequest : Request (Nat × Nat × Nat) where
  code := 0x29
  length := 3
  read := readThreeBytes
  permitted := permitAny
  inRange a := 1 ≤ a.1 && a.1 ≤ 32 && 1 ≤ a.2.1 && a.2.1 ≤ 32 && 1 ≤ a.2.2 && a.2.2 ≤ 32
  work := State.setQuanta

def execSetQuanta (p : PortId) (s : State) : Step := .next (setQuantaRequest.take p s)

/-! ### SELECTION (R86 to R89) -/

/-- The conditions of R86, but for the active lists. -/
def State.selectionReady (s : State) (p : PortId) : Bool :=
  let w := s.window p
  s.isEnabled p && (s.port p).state == .active && w.outstanding.length < Config.windowCapacity && 1 ≤ w.credit

/-- The head cost of a band: the cost of the head entry of the first queue of its active list (R88). -/
def State.headCost (s : State) (t : StationId) (sch : Scheduler) (b : Band) : Nat :=
  match sch.active.get b with
  | [] => 1
  | q :: _ =>
    match s.queue t q with
    | none => 1
    | some x =>
      match x.list with
      | [] => 1
      | e :: _ => s.entryCost e.ref

/-- Steps 1 to 3 of R88: the band to serve, with the scheduler as the arrivals on the way have left it. The fuel bounds
the turns; R88 says seven turns round the three bands are enough (log 16). -/
def Scheduler.seek (quanta : DrrCounts) (cost : DrrBand → Nat) : Nat → Scheduler → Option (DrrBand × Scheduler)
  | 0, _ => none
  | fuel + 1, sch =>
    let b := sch.pointer
    if (sch.active.get b.band).isEmpty then Scheduler.seek quanta cost fuel { sch with pointer := b.following }
    else
      let arrived :=
        if sch.visitOpen then sch
        else { sch with deficit := sch.deficit.set b (sch.deficit.get b + quanta.get b), visitOpen := true }
      if cost b ≤ arrived.deficit.get b then some (b, arrived)
      else Scheduler.seek quanta cost fuel { arrived with visitOpen := false, pointer := b.following }

/-- Turns enough for `Scheduler.seek`: eight round the three bands, and the open visit. -/
def seekFuel : Nat := 25

/-- The first queue of a band's active list goes to its tail, or leaves it when its list is empty (R86 step 4). -/
def Scheduler.rotate (sch : Scheduler) (b : Band) (stays : Bool) : Scheduler :=
  match sch.active.get b with
  | [] => sch
  | q :: r => { sch with active := sch.active.set b (if stays then r ++ [q] else r) }

/-- Step 4 of R88 after the entry of this cost is taken; `next` is the new head cost. -/
def Scheduler.pay (sch : Scheduler) (b : DrrBand) (cost next : Nat) : Scheduler :=
  let left := sch.deficit.get b - cost
  if (sch.active.get b.band).isEmpty then
    { sch with deficit := sch.deficit.set b 0, visitOpen := false, pointer := b.following }
  else if left < next then
    { sch with deficit := sch.deficit.set b left, visitOpen := false, pointer := b.following }
  else { sch with deficit := sch.deficit.set b left }

/-- The head entry of queue (p, q) leaves its list and the queue turns in band b (R40, R86 steps 2 and 4); `sch` is the
scheduler to continue from. Answers the entry taken and its cost. -/
def State.takeHead (s : State) (p : PortId) (sch : Scheduler) (b : Band) (q : Nat) :
    Option (EntryRef × Nat × Scheduler × State) :=
  match s.queue p q with
  | none => none
  | some x =>
    match x.list with
    | [] => none
    | e :: r =>
      let turned := sch.rotate b (!r.isEmpty)
      some (e.ref, s.entryCost e.ref, turned,
        s.setQueue p q { x with list := r, outstanding := x.outstanding + 1 })

/-- A selection that serves band 0 (R87). -/
def State.selectStrict (s : State) (p : PortId) (q : Nat) : State :=
  match s.takeHead p (s.scheduler p) .b0 q with
  | none => s
  | some (e, _, sch, s') => (s'.setScheduler p sch).transmit p e

/-- A selection by deficit round robin (R88). -/
def State.selectDrr (s : State) (p : PortId) : State :=
  let sch := s.scheduler p
  match Scheduler.seek (s.station p).quanta (fun b => s.headCost p sch b.band) seekFuel sch with
  | none => s
  | some (b, arrived) =>
    match arrived.active.get b.band with
    | [] => s
    | q :: _ =>
      match s.takeHead p arrived b.band q with
      | none => s
      | some (e, cost, turned, s') =>
        (s'.setScheduler p (turned.pay b cost (s'.headCost p turned b.band))).transmit p e

/-- The scheduler of station p makes a selection when the conditions of R86 hold. -/
def State.select (s : State) (p : PortId) : State :=
  if s.selectionReady p then
    match (s.scheduler p).active.b0 with
    | q :: _ => s.selectStrict p q
    | [] => s.selectDrr p
  else s

def execSelection (p : PortId) (s : State) : Step := .next (s.select p)

end Sys2Proof.Machine
end

