-- ==== Sys2Proof/Machine/Windows.lean ====
section
/-! DEFINITION. The Delivery Window (chapter 5): ACK, EXPIRY, SET DELIVERY TIMING, and the passing of time. -/

namespace Sys2Proof.Machine

/-! ### ACK (R109 to R111) -/

/-- Completes deliveries in list order, oldest first (R110). -/
def State.completeAll (s : State) : List EntryRef → State
  | [] => s
  | e :: r => (s.freeEntry e .acknowledged .outstanding).completeAll r

/-- A window after an ACK that completed its `count` oldest entries, whose sequences are `seqs` (R111). -/
def Window.progress (w : Window) (count : Nat) (seqs : List SeqNum) (increment : Nat) : Window :=
  let rest := w.outstanding.drop count
  { w with
    outstanding := rest
    retransmissions := w.retransmissions.filter (fun f => !seqs.contains f.seq)
    newDeliveries := w.newDeliveries.filter (fun f => !seqs.contains f.seq)
    retryCount := 0
    timer := if rest.isEmpty then none else some w.ackTimeout
    credit := addCredit w.credit increment }

/-- An ACK of the present session is taken whole by the window (R109). -/
def State.takeAck (s : State) (p : PortId) (a : AckFrame) : State :=
  let w := s.window p
  match a.seq with
  | none => s.setWindow p { w with credit := addCredit w.credit a.credit }
  | some n =>
    match s.upToSeq n w.outstanding with
    | none => s.protocolError p
    | some entries =>
      let seqs := entries.filterMap s.entrySeq
      let s := s.completeAll entries
      s.setWindow p (w.progress entries.length seqs a.credit)

/-- An ACK frame arrives (R157, R163 checks 4 to 6). -/
def State.arriveAck (s : State) (p : PortId) (a : AckFrame) : State :=
  let x := s.port p
  match x.state with
  | .down | .idle | .fenced => s
  | .active =>
    match x.session with
    | none => s
    | some ses => if a.session = ses.number then s.takeAck p a else s

def execAck (p : PortId) (content : List Byte) (s : State) : Step :=
  match classify content with
  | .ack a => .next (s.arriveAck p a)
  | _ => .next s

/-! ### EXPIRY (R112, R113) -/

/-- The go-back: every frame of the window not yet begun is withdrawn and the whole outstanding list is sent again
(R112). -/
def State.goBack (s : State) (p : PortId) (retries : Nat) : State :=
  let w := s.window p
  s.setWindow p
    { w with
      retryCount := retries
      timer := some w.ackTimeout
      newDeliveries := []
      retransmissions := w.outstanding.filterMap (s.buildDelivery (s.port p).sessionNumber) }

/-- The timer of port p has run out: the ack timeout has passed since its last start or restart, so that its expiry is
due (R108, R203). -/
def State.expiryDue (s : State) (p : PortId) : Bool := (s.window p).timer == some 0

/-- The expiry of port p is taken when it is due (R108, R112); one that is not due does not happen (R114). -/
def State.expire (s : State) (p : PortId) : State :=
  if s.expiryDue p then
    let w := s.window p
    let retries := w.retryCount + 1
    if w.retryLimit < retries then s.fence p .retries else s.goBack p retries
  else s

def execExpiry (p : PortId) (s : State) : Step := .next (s.expire p)

/-! ### SET DELIVERY TIMING (R120, R121) -/

/-- Port, ack timeout, retry limit. -/
def State.setTiming (s : State) (p : PortId) (ackTimeout retryLimit : Nat) : Reply :=
  let w := s.window p
  ⟨.done, bytes8 w.ackTimeout ++ bytes8 ackTimeout ++ bytes8 w.retryLimit ++ bytes8 retryLimit,
    s.setWindow p { w with ackTimeout := ackTimeout, retryLimit := retryLimit }⟩

def setDeliveryTimingRequest : Request (Nat × Nat × Nat) where
  code := 0x30
  length := 3
  read := readThreeBytes
  permitted := permitManage
  inRange a := a.1 ≤ 7 && 1 ≤ a.2.1 && a.2.2 ≤ 7
  work s _ a := withStation s a.1 (fun p => s.setTiming p a.2.1 a.2.2)

def execSetDeliveryTiming (p : PortId) (s : State) : Step := .next (setDeliveryTimingRequest.take p s)

/-! ### Time (R108, R203) -/

/-- A running timer has one unit less, down to 0 (R108, R203). -/
def PortLink.tick (x : PortLink) : PortLink :=
  { x with window := { x.window with timer := x.window.timer.map (· - 1) } }

/-- Every running timer has one unit less. -/
def State.tick (s : State) : State := { s with ports := Bank.mapIdx s.ports (fun _ x => x.tick) }

/-- The expiries of several ports, one after the other. -/
def State.expireAll (s : State) : List PortId → State
  | [] => s
  | p :: r => (s.expire p).expireAll r

/-- One unit of 100 µs passes (log 1): every running timer has one unit less, and an expiry that was due before the unit
and has not been taken is taken within it (R108, R203), in ascending port order (log 5). -/
def State.passUnit (s : State) : State := s.tick.expireAll (stationsInOrder.filter s.expiryDue)

end Sys2Proof.Machine
end

