-- ==== Sys2Proof/Machine/Sweeps.lean ====
section
/-! DEFINITION. The Sweep Unit (chapter 6): REVOKE FAMILY, PURGE QUEUE, EVICT STATION, READ SWEEP and the steps of the
two passes. -/

namespace Sys2Proof.Machine

/-! ### Acceptance (R124, R125, R130, R132, R135) -/

/-- The Sweep Unit becomes BUSY with a sweep of this subject from requester t, at the start of its slot pass; the freed
counts start from the values given (R125, R130, R135 step 5). -/
def State.startSweep (s : State) (t : StationId) (subject : SweepSubject) (slots messages : Nat) : State :=
  let ticket := nextOf255 s.lastTicket
  { s with
    lastTicket := ticket
    sweep := some
      { subject := subject, cursor := .slotPass 0 1, ticket := ticket, requester := t,
        requesterGeneration := (s.station t).generation, slotsFreed := slots, messagesFreed := messages } }

/-- The result fields the three acceptances share: ticket, families made REVOKING, queues made PURGING. -/
def acceptanceBytes (s : State) (families queues : Nat) : List Byte :=
  bytes8 s.lastTicket ++ bytes16 families ++ bytes8 queues

/-! ### REVOKE FAMILY (R129, R130) -/

def State.revokeFamily (s : State) (t : StationId) (f : Nat) : Reply :=
  match s.family f with
  | none => Reply.refuse s .noSuch
  | some x =>
    if x.state = .revoking then Reply.refuse s .wrongState
    else if s.sweep.isSome then Reply.refuse s .sweepBusy
    else
      let s := (s.setFamily f { x with state := .revoking }).startSweep t (.revoke f) 0 0
      ⟨.accepted, acceptanceBytes s 1 0 ++ bytes16 x.live, s⟩

def revokeFamilyRequest : Request Nat where
  code := 0x38
  length := 2
  read := readWord
  permitted := permitIssuer
  inRange f := 1 ≤ f && f ≤ Config.familyCapacity
  work := State.revokeFamily

def execRevokeFamily (p : PortId) (s : State) : Step := .next (revokeFamilyRequest.take p s)

/-! ### PURGE QUEUE (R131, R132) -/

/-- The family targets queue (t, q) (R132). -/
def Family.targets (t : StationId) (q : Nat) (x : Family) : Bool := x.issuer == t && x.target == q

/-- Requester r purges queue (t, q). -/
def State.purgeQueue (s : State) (r t : StationId) (q : Nat) : Reply :=
  if q = 0 then Reply.refuse s .reservedObject
  else
    match s.queue t q with
    | none => Reply.refuse s .noSuch
    | some x =>
      if x.state = .purging then Reply.refuse s .wrongState
      else if s.sweep.isSome then Reply.refuse s .sweepBusy
      else
        let families := s.countOpen (Family.targets t q)
        let s := s.setQueue t q { x with state := .purging, passComplete := false }
        let s := s.leaveActive t x.band q
        let s := (s.revokeFamilies (Family.targets t q)).startSweep r (.purge t q) 0 0
        ⟨.accepted, acceptanceBytes s families 1 ++ bytes8 x.heldMessages, s⟩

def purgeQueueRequest : Request (Nat × Nat) where
  code := 0x39
  length := 2
  read := readTwoBytes
  permitted s t a := permitSelfOr s t a.1
  inRange a := a.1 ≤ 7 && a.2 ≤ Config.lastQueue
  work s r a := withStation s a.1 (fun t => s.purgeQueue r t a.2)

def execPurgeQueue (p : PortId) (s : State) : Step := .next (purgeQueueRequest.take p s)

/-! ### EVICT STATION (R134, R135) -/

/-- Every queue of station t that is not UNUSED becomes PURGING with its mark clear, and leaves its active list; all
four lists are then empty, the deficits 0 and the visit closed (R91, R135 step 3). -/
def State.purgeAllQueues (s : State) (t : StationId) : State :=
  let close (x : Queue) : Queue := { x with state := .purging, passComplete := false }
  let s := { s with queues := Bank.set s.queues t (Table.mapRecords (Bank.get s.queues t) close) }
  s.setScheduler t
    { s.scheduler t with active := ActiveLists.empty, deficit := DrrCounts.zero, visitOpen := false }

/-- Requester r evicts station t. -/
def State.evictStation (s : State) (r t : StationId) : Reply :=
  if !s.isEnabled t then Reply.refuse s .wrongState
  else if s.sweep.isSome then Reply.refuse s .sweepBusy
  else
    let families := s.countOpen (fun x => x.issuer == t)
    let queues := Table.countRecords (Bank.get s.queues t) (fun x => x.state != .purging)
    let s := s.setStation t { s.station t with state := .evicting }
    let s := s.revokeFamilies (fun x => x.issuer == t)
    let s := s.purgeAllQueues t
    let ending := (s.port t).state == .active
    let entries := if ending then (s.window t).outstanding else []
    let slots := entries.countP s.holdsReserved
    let s :=
      if ending then
        let s := s.endSession t
        s.setPort t { s.port t with state := .idle, linkReply := none }
      else s
    let s := s.startSweep r (.evict t) slots entries.length
    ⟨.accepted, acceptanceBytes s families queues, s⟩

def evictStationRequest : Request Nat where
  code := 0x3A
  length := 1
  read := readByte
  permitted s t n := s.holdsManage t && n != t.val
  inRange n := n ≤ 7
  work s r n := withStation s n (fun t => s.evictStation r t)

def execEvictStation (p : PortId) (s : State) : Step := .next (evictStationRequest.take p s)

/-! ### READ SWEEP (R143) -/

def Sweep.fields (x : Sweep) : List Byte :=
  [x.subject.kindCode] ++ x.subject.bytes ++ bytes8 x.ticket ++ [x.cursor.phaseCode] ++ x.cursor.bytes ++
    bytes8 x.requester.val ++ bytes8 x.requesterGeneration ++ bytes16 x.slotsFreed ++ bytes16 x.messagesFreed

/-- The last completed record: a presence byte, then its fields (R201). -/
def outcomeBytes : Option SweepOutcome → List Byte
  | none => [0]
  | some x =>
    [1] ++ bytes8 x.ticket ++ [x.subject.kindCode] ++ x.subject.bytes ++ bytes16 x.slotsFreed ++ bytes16 x.messagesFreed

def State.readSweep (s : State) : Reply :=
  let fields :=
    match s.sweep with
    | none => [0]
    | some x => 1 :: x.fields
  ⟨.done, fields ++ bytes8 s.lastTicket ++ outcomeBytes s.lastCompleted, s⟩

def readSweepRequest : Request Unit where
  code := 0x3B
  length := 0
  read := readNothing
  permitted := permitAny
  inRange _ := true
  work s _ _ := s.readSweep

def execReadSweep (p : PortId) (s : State) : Step := .next (readSweepRequest.take p s)

/-! ### The end of a sweep (R138) -/

/-- The sweep x ends: its report is called for, the last completed record is written, the unit becomes IDLE. -/
def State.endSweep (s : State) (x : Sweep) : State :=
  let s :=
    if s.isCurrent x.requester x.requesterGeneration then
      s.callReport x.requester (.sweepComplete x.ticket x.subject x.slotsFreed x.messagesFreed)
    else s
  { s with
    sweep := none
    lastCompleted := some ⟨x.ticket, x.subject, x.slotsFreed, x.messagesFreed⟩ }

/-! ### The slot pass (R127) -/

/-- A slot of station t with this record is to be freed (R127). -/
def State.isToBeFreed (s : State) (x : Sweep) (t : StationId) (y : Slot) : Bool :=
  (s.family y.family).any (fun f => f.state == .revoking) || x.subject == .evict t

/-- The step deals with slot (t, n), whose record is y (R127). -/
def State.sweepSlot (s : State) (t : StationId) (n : Nat) (y : Slot) : State :=
  let s :=
    match y.status with
    | .reserved d => s.voidReserved d n
    | .defined => s
  s.freeSlot t n y

/-- The slot after (t, n), none after (7, 1023) (R127). -/
def nextSlot (t : StationId) (n : Nat) : Option (StationId × Nat) :=
  if n < Config.slotsPerTable then some (t, n + 1) else (asStation (t.val + 1)).map (fun u => (u, 1))

/-- The lowest-numbered PURGING queue of station t whose number is at least `least` (R136). -/
def State.nextPurging (s : State) (t : StationId) (least : Nat) : Option Nat :=
  ((Bank.get s.queues t).find? (fun e => decide (least ≤ e.1) && e.2.state == .purging)).map Prod.fst

/-- What follows slot (7, 1023): the end of a REVOKE, the queue pass of a PURGE or an EVICT (R127, R133, R136). -/
def State.leaveSlotPass (s : State) (x : Sweep) : State :=
  match x.subject with
  | .revoke _ => s.endSweep x
  | .purge t q => { s with sweep := some { x with cursor := .queuePass t q } }
  | .evict t => { s with sweep := some { x with cursor := .queuePass t ((s.nextPurging t 0).getD 0) } }

/-- The cursor moves on from slot (t, n). -/
def State.advanceSlot (s : State) (x : Sweep) (t : StationId) (n : Nat) : State :=
  match nextSlot t n with
  | some (u, m) => { s with sweep := some { x with cursor := .slotPass u m } }
  | none => s.leaveSlotPass x

/-- A step of the slot pass (R127). -/
def State.slotStep (s : State) : State :=
  match s.sweep with
  | none => s
  | some x =>
    match x.cursor with
    | .queuePass _ _ => s
    | .slotPass t n =>
      match s.slot t n with
      | none => s.advanceSlot x t n
      | some y =>
        if s.isToBeFreed x t y then
          (s.sweepSlot t n y).advanceSlot { x with slotsFreed := x.slotsFreed + 1 } t n
        else s.advanceSlot x t n

def execSlotPassStep (s : State) : Step := .next s.slotStep

/-! ### The queue pass (R128) -/

/-- The record of station t when its evict completes (R137). -/
def Station.evicted (x : Station) : Station :=
  { x with
    state := .absent, manage := false, grantLimit := 0, queueLimit := 0, cellQuota := 0, lostReports := 0
    quanta := DrrCounts.defaultQuanta }

/-- The evict of station t completes (R137). -/
def State.completeEvict (s : State) (t : StationId) : State :=
  let s := s.setStation t (s.station t).evicted
  s.setScheduler t { s.scheduler t with pointer := .b1, visitOpen := false }

/-- The mark of queue (t, q) has been set: the pass moves to the next queue, or the sweep ends (R128, R137, R138). -/
def State.leaveQueue (s : State) (x : Sweep) (t : StationId) (q : Nat) : State :=
  match x.subject with
  | .evict u =>
    match s.nextPurging t (q + 1) with
    | some r => { s with sweep := some { x with cursor := .queuePass t r } }
    | none => (s.completeEvict u).endSweep x
  | .revoke _ | .purge _ _ => s.endSweep x

/-- The pass complete mark of queue (t, q) is set, which may make it UNUSED (R50, R128). -/
def State.setMark (s : State) (t : StationId) (q : Nat) : State :=
  match s.queue t q with
  | none => s
  | some y => (s.setQueue t q { y with passComplete := true }).settleQueue t q

/-- The head entry e of queue (t, q), whose record is y and whose list continues with r, is freed (R128). -/
def State.sweepEntry (s : State) (t : StationId) (q : Nat) (y : Queue) (e : EntryRef) (r : List ListEntry) : State :=
  (s.setQueue t q { y with list := r }).freeEntry e .withdrawn .listed

/-- A step of the queue pass (R128). -/
def State.queueStep (s : State) : State :=
  match s.sweep with
  | none => s
  | some x =>
    match x.cursor with
    | .slotPass _ _ => s
    | .queuePass t q =>
      match s.queue t q with
      | none => s.leaveQueue x t q
      | some y =>
        match y.list with
        | [] => (s.setMark t q).leaveQueue x t q
        | e :: r =>
          let slots := if s.holdsReserved e.ref then x.slotsFreed + 1 else x.slotsFreed
          let x := { x with slotsFreed := slots, messagesFreed := x.messagesFreed + 1 }
          let s := s.sweepEntry t q y e.ref r
          if r.isEmpty then (s.setMark t q).leaveQueue x t q else { s with sweep := some x }

def execQueuePassStep (s : State) : Step := .next s.queueStep

end Sys2Proof.Machine
end

