-- ==== Sys2Proof/Machine/PortRequests.lean ====
section
/-! DEFINITION. The requests of chapter 8: RELEASE PORT, READ PORT, SET PORT LIMIT. -/

namespace Sys2Proof.Machine

/-! ### RELEASE PORT (R172) -/

def State.releasePort (s : State) (p : PortId) : Reply :=
  let x := s.port p
  if x.state = .fenced then
    ⟨.done, [fenceCauseCode x.fenceCause], s.setPort p { x with state := .idle, protocolErrors := 0 }⟩
  else Reply.refuse s .wrongState

def releasePortRequest : Request Nat where
  code := 0x40
  length := 1
  read := readByte
  permitted := permitManage
  inRange n := n ≤ 7
  work s _ n := withStation s n s.releasePort

def execReleasePort (p : PortId) (s : State) : Step := .next (releasePortRequest.take p s)

/-! ### READ PORT (R176) -/

/-- The items of a session, shown while ACTIVE. -/
def PortLink.sessionFields (x : PortLink) (ses : Session) : List Byte :=
  bytes8 ses.number ++ [ses.arrival] ++ bytes8 x.ingress.length ++ bytes8 x.history.length ++ bytes8 x.answers.length

/-- Stopped, or running with its time remaining (R176, R201). -/
def timerBytes : Option Nat → List Byte
  | none => [0]
  | some n => 1 :: bytes8 n

/-- The window items of R100 (R176); the oldest sequence only when there is one (log 12). -/
def State.windowFields (s : State) (w : Window) : List Byte :=
  bytes8 w.outstanding.length ++ [w.nextSeq] ++ bytes8 w.credit ++ timerBytes w.timer ++ bytes8 w.retryCount ++
    bytes8 w.ackTimeout ++ bytes8 w.retryLimit ++ ((w.outstanding.head?.bind s.entrySeq).toList)

def State.readPort (s : State) (p : PortId) : Reply :=
  let x := s.port p
  let session :=
    match x.session with
    | none => []
    | some ses => x.sessionFields ses
  ⟨.done, [x.state.code] ++ session ++ bytes16 x.crcErrors ++ bytes8 x.protocolErrors ++ bytes8 x.protocolLimit ++
    [fenceCauseCode x.fenceCause] ++ s.windowFields x.window, s⟩

def readPortRequest : Request Nat where
  code := 0x41
  length := 1
  read := readByte
  permitted := permitSelfOr
  inRange n := n ≤ 7
  work s _ n := withStation s n s.readPort

def execReadPort (p : PortId) (s : State) : Step := .next (readPortRequest.take p s)

/-! ### SET PORT LIMIT (R175) -/

def State.setPortLimit (s : State) (p : PortId) (limit : Nat) (clearCrc : Bool) : Reply :=
  let x := s.port p
  ⟨.done, bytes8 x.protocolLimit ++ bytes8 x.protocolErrors ++ bytes16 x.crcErrors,
    s.setPort p
      { x with
        protocolLimit := limit
        protocolErrors := 0
        crcErrors := if clearCrc then 0 else x.crcErrors }⟩

def setPortLimitRequest : Request PortLimitParams where
  code := 0x42
  length := 3
  read := readPortLimit
  permitted := permitManage
  inRange a := a.port ≤ 7 && 1 ≤ a.limit
  work s _ a := withStation s a.port (fun p => s.setPortLimit p a.limit a.clearCrc)

def execSetPortLimit (p : PortId) (s : State) : Step := .next (setPortLimitRequest.take p s)

end Sys2Proof.Machine
end

