-- ==== Sys2Proof/Machine/Stations.lean ====
section
/-! DEFINITION. The requests of chapter 9: ENABLE STATION, SET LIMITS, SET MANAGE, READ STATION, READ DEVICE and CLEAR
TABLES. -/

namespace Sys2Proof.Machine

/-! ### ENABLE STATION (R187, R188) -/

/-- Station t, with these limits and this MANAGE choice, becomes ENABLED (R188). -/
def State.enable (s : State) (t : StationId) (a : EnableParams) : State :=
  let x := s.station t
  let s := s.setStation t
    { state := .enabled, generation := nextOf255 x.generation, manage := a.manage, grantLimit := a.limits.grantLimit,
      queueLimit := a.limits.queueLimit, cellQuota := a.limits.cellQuota, lostReports := x.lostReports,
      quanta := DrrCounts.defaultQuanta }
  let s := s.setQueue t 0 Queue.freshReportQueue
  s.setScheduler t Scheduler.reset

def State.enableStation (s : State) (t : StationId) (a : EnableParams) : Reply :=
  if (s.station t).state = .absent then
    let s := s.enable t a
    ⟨.done, bytes8 (s.station t).generation ++ bytes8 s.manageHolders, s⟩
  else Reply.refuse s .wrongState

def enableStationRequest : Request EnableParams where
  code := 0x48
  length := 7
  read := readEnable
  permitted := permitManage
  inRange a := a.limits.inRange
  work s _ a := withStation s a.limits.station (fun t => s.enableStation t a)

def execEnableStation (p : PortId) (s : State) : Step := .next (enableStationRequest.take p s)

/-! ### SET LIMITS (R189) -/

def State.setLimits (s : State) (t : StationId) (a : LimitsParams) : Reply :=
  let x := s.station t
  let slots := Bank.get s.slotsInUse t
  let rqs := Bank.get s.rqsInUse t
  let cells := Bank.get s.heldCells t
  if !s.isEnabled t then Reply.refuse s .wrongState
  else if a.grantLimit < slots ∨ a.queueLimit < rqs ∨ a.cellQuota < cells then Reply.refuse s .limitBelowUse
  else
    ⟨.done, bytes16 x.grantLimit ++ bytes16 a.grantLimit ++ bytes8 x.queueLimit ++ bytes8 a.queueLimit ++
      bytes16 x.cellQuota ++ bytes16 a.cellQuota ++ bytes16 slots ++ bytes8 rqs ++ bytes16 cells,
      s.setStation t { x with grantLimit := a.grantLimit, queueLimit := a.queueLimit, cellQuota := a.cellQuota }⟩

def setLimitsRequest : Request LimitsParams where
  code := 0x49
  length := 6
  read := readLimits
  permitted := permitManage
  inRange a := a.inRange
  work s _ a := withStation s a.station (fun t => s.setLimits t a)

def execSetLimits (p : PortId) (s : State) : Step := .next (setLimitsRequest.take p s)

/-! ### SET MANAGE (R190) -/

def State.setManage (s : State) (t : StationId) (choice : Bool) : Reply :=
  let x := s.station t
  if !s.isEnabled t then Reply.refuse s .wrongState
  else if !choice && x.manage && s.manageHolders == 1 then Reply.refuse s .lastManager
  else
    let s := s.setStation t { x with manage := choice }
    ⟨.done, [flagByte x.manage] ++ bytes8 s.manageHolders, s⟩

def setManageRequest : Request (Nat × Bool) where
  code := 0x4A
  length := 2
  read := readByteChoice
  permitted := permitManage
  inRange a := a.1 ≤ 7
  work s _ a := withStation s a.1 (fun t => s.setManage t a.2)

def execSetManage (p : PortId) (s : State) : Step := .next (setManageRequest.take p s)

/-! ### READ STATION (R191) -/

/-- Deficits, band pointer, visit open flag, and the lengths of the active lists (R191). -/
def Scheduler.fields (x : Scheduler) : List Byte :=
  drrBytes x.deficit ++ bytes8 x.pointer.number ++ [flagByte x.visitOpen] ++ bytes8 x.active.b0.length ++
    bytes8 x.active.b1.length ++ bytes8 x.active.b2.length ++ bytes8 x.active.b3.length

def State.readStation (s : State) (t : StationId) : Reply :=
  let x := s.station t
  ⟨.done, [x.state.code] ++ bytes8 x.generation ++ [flagByte x.manage] ++ bytes16 x.grantLimit ++
    bytes16 (Bank.get s.slotsInUse t) ++ bytes8 x.queueLimit ++ bytes8 (Bank.get s.rqsInUse t) ++
    bytes16 x.cellQuota ++ bytes16 (Bank.get s.heldCells t) ++ bytes8 x.lostReports ++ drrBytes x.quanta ++
    (s.scheduler t).fields, s⟩

def readStationRequest : Request Nat where
  code := 0x4B
  length := 1
  read := readByte
  permitted := permitSelfOr
  inRange n := n ≤ 7
  work s _ n := withStation s n s.readStation

def execReadStation (p : PortId) (s : State) : Step := .next (readStationRequest.take p s)

/-! ### READ DEVICE (R192) -/

/-- The capacities, in the order of R192. -/
def capacityBytes : List Byte :=
  bytes8 8 ++ bytes16 Config.slotsPerTable ++ bytes16 Config.storeCapacity ++ bytes16 Config.familyCapacity ++
    bytes8 Config.queuesPerStation ++ bytes16 Config.descriptorCapacity ++ bytes16 Config.cellCapacity ++
    bytes8 Config.reportCapacity

def State.readDevice (s : State) (t : StationId) : Reply :=
  let x := s.station t
  let overview := stationsInOrder.flatMap (fun u => [(s.station u).state.code, flagByte (s.station u).manage])
  ⟨.done, Config.partIdentity ++ capacityBytes ++ bytes8 t.val ++ [x.state.code] ++ bytes8 x.generation ++ overview ++
    bytes8 s.manageHolders ++ bytes16 s.storeUse ++ bytes16 (Config.familyCapacity - s.families.length) ++
    [flagByte s.sweep.isSome], s⟩

def readDeviceRequest : Request Unit where
  code := 0x4C
  length := 0
  read := readNothing
  anyStation := true
  permitted := permitAny
  inRange _ := true
  work s t _ := s.readDevice t

def execReadDevice (p : PortId) (s : State) : Step := .next (readDeviceRequest.take p s)

/-! ### CLEAR TABLES (R193, R194) -/

/-- A port under CLEAR TABLES: an ACTIVE session ends, a FENCED port is released, others are unchanged; the answers of
the requester's port stay (R161 step 4, R179, R193 steps 2 and 3). -/
def PortLink.cleared (x : PortLink) (requester : Bool) : PortLink :=
  match x.state with
  | .active =>
    { x.withoutSession with state := .idle, linkReply := none, answers := if requester then x.answers else [] }
  | .fenced => { x with state := .idle, protocolErrors := 0 }
  | .down | .idle => x

/-- A station record under CLEAR TABLES (R194). -/
def Station.cleared (x : Station) (requester : Bool) : Station :=
  if requester then
    { x with state := .enabled, generation := nextOf255 x.generation, manage := true, lostReports := 0 }
  else
    { state := .absent, generation := x.generation, manage := false, grantLimit := 0, queueLimit := 0, cellQuota := 0,
      lostReports := 0, quanta := DrrCounts.defaultQuanta }

/-- CLEAR TABLES from station t, after its RESPONSE has been produced (R193 steps 2 to 6). The last ticket issued is
kept; the last completed record is removed (R145). -/
def State.clearTables (s : State) (t : StationId) : State :=
  { s with
    tables := Bank.fill []
    slotsInUse := Bank.fill 0
    storeUse := 0
    families := []
    queues := Bank.set (Bank.fill []) t [(0, Queue.freshReportQueue)]
    rqsInUse := Bank.fill 0
    descriptors := []
    freeDescriptors := Config.descriptorCapacity
    freeCells := Config.cellCapacity
    reports := []
    freeReports := Config.reportCapacity
    heldCells := Bank.fill 0
    schedulers := Bank.fill Scheduler.reset
    ports := Bank.mapIdx s.ports (fun u x => x.cleared (u == t))
    sweep := none
    lastCompleted := none
    stations := Bank.mapIdx s.stations (fun u x => x.cleared (u == t)) }

def clearTablesRequest : Request Unit where
  code := 0x4F
  length := 0
  read := readNothing
  permitted := permitManage
  inRange _ := true
  work s _ _ := ⟨.done, [], s⟩
  finish := State.clearTables

def execClearTables (p : PortId) (s : State) : Step := .next (clearTablesRequest.take p s)

end Sys2Proof.Machine
end

