-- ==== Sys2Proof/Machine/Dispatch.lean ====
section
/-! DEFINITION. One arm for each row of the opcode table: the meaning of every command. -/

namespace Sys2Proof.Machine

def exec (i : Instr) (s : State) : Host.Outcome State Fault Refusal :=
  match i with
  | .resetN => Sys2Proof.Machine.execResetN s
  | .signalDetect p => Sys2Proof.Machine.execSignalDetect p s
  | .signalLoss p => Sys2Proof.Machine.execSignalLoss p s
  | .crcErrorFrame p content => Sys2Proof.Machine.execCrcErrorFrame p content s
  | .unreadableFrame p content => Sys2Proof.Machine.execUnreadableFrame p content s
  | .linkOpen p content => Sys2Proof.Machine.execLinkOpen p content s
  | .linkClose p content => Sys2Proof.Machine.execLinkClose p content s
  | .linkPing p content => Sys2Proof.Machine.execLinkPing p content s
  | .ingressArrival p content => Sys2Proof.Machine.execIngressArrival p content s
  | .ack p content => Sys2Proof.Machine.execAck p content s
  | .admission p => Sys2Proof.Machine.execAdmission p s
  | .issueGrant p => Sys2Proof.Machine.execIssueGrant p s
  | .dropGrant p => Sys2Proof.Machine.execDropGrant p s
  | .installGrant p => Sys2Proof.Machine.execInstallGrant p s
  | .readGrant p => Sys2Proof.Machine.execReadGrant p s
  | .readFamily p => Sys2Proof.Machine.execReadFamily p s
  | .openQueue p => Sys2Proof.Machine.execOpenQueue p s
  | .sealQueue p => Sys2Proof.Machine.execSealQueue p s
  | .unsealQueue p => Sys2Proof.Machine.execUnsealQueue p s
  | .setDepth p => Sys2Proof.Machine.execSetDepth p s
  | .readQueue p => Sys2Proof.Machine.execReadQueue p s
  | .readPool p => Sys2Proof.Machine.execReadPool p s
  | .setBand p => Sys2Proof.Machine.execSetBand p s
  | .setQuanta p => Sys2Proof.Machine.execSetQuanta p s
  | .setDeliveryTiming p => Sys2Proof.Machine.execSetDeliveryTiming p s
  | .revokeFamily p => Sys2Proof.Machine.execRevokeFamily p s
  | .purgeQueue p => Sys2Proof.Machine.execPurgeQueue p s
  | .evictStation p => Sys2Proof.Machine.execEvictStation p s
  | .readSweep p => Sys2Proof.Machine.execReadSweep p s
  | .releasePort p => Sys2Proof.Machine.execReleasePort p s
  | .readPort p => Sys2Proof.Machine.execReadPort p s
  | .setPortLimit p => Sys2Proof.Machine.execSetPortLimit p s
  | .enableStation p => Sys2Proof.Machine.execEnableStation p s
  | .setLimits p => Sys2Proof.Machine.execSetLimits p s
  | .setManage p => Sys2Proof.Machine.execSetManage p s
  | .readStation p => Sys2Proof.Machine.execReadStation p s
  | .readDevice p => Sys2Proof.Machine.execReadDevice p s
  | .clearTables p => Sys2Proof.Machine.execClearTables p s
  | .unknownRequest p => Sys2Proof.Machine.execUnknownRequest p s
  | .selection p => Sys2Proof.Machine.execSelection p s
  | .expiry p => Sys2Proof.Machine.execExpiry p s
  | .egressArbitration p => Sys2Proof.Machine.execEgressArbitration p s
  | .slotPassStep => Sys2Proof.Machine.execSlotPassStep s
  | .queuePassStep => Sys2Proof.Machine.execQueuePassStep s

end Sys2Proof.Machine
end

