-- ==== Sys2Proof/Machine/Step.lean ====
section
/-! DEFINITION. One step: the command at the front of the queue, or, when none waits, the passing of one unit of time
(log 1). -/

namespace Sys2Proof.Machine

/-- Takes the command at the front of the queue and answers its outcome. With no command waiting, one unit of 100 µs
passes (R108, R203; log 1). -/
def step (s : State) : Host.Outcome State Fault Refusal :=
  match s.pending with
  | [] => .next s.passUnit
  | c :: rest => exec c { s with pending := rest }

/-- The command that a word spells, put at the front of the queue; the table spells none (log 8). -/
def State.withFetchWord (s : State) (nbits w : Nat) : State :=
  match decodeTableWord nbits w with
  | none => s
  | some c => { s with pending := c :: s.pending }

end Sys2Proof.Machine
end

