-- ==== Sys2Proof/Safety.lean ====
section
/-! DEFINITION. What stays true of the part from one step to the next: the invariants the spec states between its
records and its counts, each as a decidable proposition about one state. -/

namespace Sys2Proof.Machine

/-! ### The stores keep one form -/

/-- Every sparse store is in its canonical form, so that equal contents are equal data. -/
abbrev State.storesCanonical (s : State) : Prop :=
  (∀ t : StationId, Table.canonical (Bank.get s.tables t) = true) ∧
  (∀ t : StationId, Table.canonical (Bank.get s.queues t) = true) ∧
  Table.canonical s.families = true ∧ Table.canonical s.descriptors = true ∧ Table.canonical s.reports = true

/-! ### Slots in use and the store use count (R4, R5) -/

/-- Slots in use are the slots that are not FREE; the store use count is their total, at most 4096. -/
abbrev State.slotsCounted (s : State) : Prop :=
  (∀ t : StationId, Table.canonical (Bank.get s.tables t) = true) ∧
  (∀ t : StationId, Bank.get s.slotsInUse t = (Bank.get s.tables t).length) ∧
  s.storeUse = Bank.total s.slotsInUse ∧ s.storeUse ≤ Config.storeCapacity

/-! ### The live count (R15) -/

/-- The slots of family f in one grant table. -/
def slotsOfFamily (f : Nat) (t : Table Slot) : Nat := Table.countRecords t (fun x => x.family == f)

/-- The descriptor carries an IN_TRANSIT copy of family f. -/
def Descriptor.carriesInTransit (f : Nat) (d : Descriptor) : Bool :=
  d.grant.any (fun g => g.family == f && g.state == .inTransit)

/-- The counted copies of family f: its slots in all tables and its IN_TRANSIT carried grants (R15). -/
def State.copies (s : State) (f : Nat) : Nat :=
  (stationsInOrder.map (fun t => slotsOfFamily f (Bank.get s.tables t))).sum +
    Table.countRecords s.descriptors (Descriptor.carriesInTransit f)

/-- Every family that is not FREE has a live count of at least 1, equal to its copies; a FREE family has no copy. -/
def State.liveCounted (s : State) : Prop :=
  ∀ f : Nat,
    match s.family f with
    | none => s.copies f = 0
    | some x => 1 ≤ x.live ∧ x.live = s.copies f

/-! ### The Message Pool (R47) -/

/-- The cells held by descriptors that are not FREE. -/
def State.cellsHeld (s : State) : Nat := (s.descriptors.map (fun e => e.2.cells)).sum

/-- Free and held cells, descriptors and report records add up to the pool. -/
abbrev State.poolConserved (s : State) : Prop :=
  s.freeCells + s.cellsHeld = Config.cellCapacity ∧
  s.freeDescriptors + s.descriptors.length = Config.descriptorCapacity ∧
  s.freeReports + s.reports.length = Config.reportCapacity

/-! ### Ports and windows (R100, R101, R119, R156, R169) -/

/-- A window of a port that is not ACTIVE (R101, R119). -/
abbrev Window.idle (w : Window) : Prop :=
  w.outstanding = [] ∧ w.nextSeq = 0 ∧ w.credit = 0 ∧ w.timer = none ∧ w.retryCount = 0 ∧ w.retransmissions = [] ∧
    w.newDeliveries = []

/-- The bounds of a window, and a timer that runs exactly while something is outstanding (R100, R101, R108). -/
abbrev Window.bounded (w : Window) : Prop :=
  w.outstanding.length ≤ 4 ∧ w.credit ≤ 15 ∧ w.retryCount ≤ 7 ∧ w.retryLimit ≤ 7 ∧ 1 ≤ w.ackTimeout ∧
    (w.timer = none ↔ w.outstanding = [])

/-- The items of a session stay in their ranges (R156). -/
abbrev Session.bounded (x : Session) : Prop := 1 ≤ x.number ∧ x.number ≤ 15 ∧ x.accepted ≤ 4

/-- What R156 and R101 say of a port in each of its states, with the protocol error count below its limit unless the
port is FENCED (R169). -/
abbrev PortLink.coherent (x : PortLink) : Prop :=
  x.ingress.length ≤ 4 ∧ x.history.length ≤ 4 ∧ x.answers.length ≤ 8 ∧ x.crcErrors ≤ 65535 ∧
  1 ≤ x.protocolLimit ∧ x.window.bounded ∧
  (∀ ses ∈ x.session, Session.bounded ses) ∧
  (x.state = .active ↔ x.session ≠ none) ∧
  (x.state ≠ .active → x.ingress = [] ∧ x.history = [] ∧ x.window.idle) ∧
  (x.state = .down ∨ x.state = .fenced → x.answers = [] ∧ x.linkReply = none) ∧
  (x.state = .fenced → x.protocolErrors ≤ x.protocolLimit ∧ x.fenceCause ≠ none) ∧
  (x.state ≠ .fenced → x.protocolErrors < x.protocolLimit)

/-- Every port is coherent. -/
abbrev State.portsCoherent (s : State) : Prop := ∀ p : PortId, (s.port p).coherent

/-! ### MANAGE (R186) -/

/-- At least one ENABLED station holds MANAGE, and the subject of an evict in progress is EVICTING (R135, R186). -/
abbrev State.managed (s : State) : Prop :=
  (∃ t : StationId, s.holdsManage t = true) ∧
  ∀ x ∈ s.sweep, ∀ u : StationId, x.subject = .evict u → (s.station u).state = .evicting

/-! ### Active lists (R83 to R85, R91) -/

/-- Queue q of station t is listed in band b as R84 says: OPEN or SEALED, with a listed entry, recorded in b. -/
def State.shouldBeActive (s : State) (t : StationId) (b : Band) (q : Nat) : Prop :=
  ∃ x, s.queue t q = some x ∧ x.state ≠ .purging ∧ x.list ≠ [] ∧ x.band = b

/-- The active lists of station t hold exactly the queues R84 says, each once; a band of 1 to 3 with an empty list has
deficit 0 and no open visit (R85). -/
def State.listsActive (s : State) (t : StationId) : Prop :=
  (∀ b, ((s.scheduler t).active.get b).Nodup) ∧
  (∀ b q, q ∈ (s.scheduler t).active.get b ↔ s.shouldBeActive t b q) ∧
  ∀ d : DrrBand, (s.scheduler t).active.get d.band = [] →
    (s.scheduler t).deficit.get d = 0 ∧ ¬ ((s.scheduler t).visitOpen = true ∧ (s.scheduler t).pointer = d)

/-- RQ 0 of an ENABLED station is OPEN in band 0 (R36); every queue of another station is PURGING or UNUSED (R91, R97). -/
def State.queuesFollowStation (s : State) (t : StationId) : Prop :=
  (s.isEnabled t = true → ∃ x, s.queue t 0 = some x ∧ x.state = .opened ∧ x.band = .b0) ∧
  (s.isEnabled t = false → ∀ q x, s.queue t q = some x → x.state = .purging)

/-- What a sweep in progress says of the queues it purges: the subject of a purge is PURGING with its mark clear, the
subject of an evict is EVICTING, and a queue pass stands on a queue of the subject (R124, R132, R135). -/
def State.sweepHoldsQueues (s : State) : Prop :=
  ∀ x ∈ s.sweep,
    match x.subject with
    | .revoke _ => ∀ t q, x.cursor ≠ .queuePass t q
    | .purge t q =>
      q ≠ 0 ∧ (∃ y, s.queue t q = some y ∧ y.state = .purging ∧ y.passComplete = false) ∧
        ∀ u r, x.cursor = .queuePass u r → u = t ∧ r = q
    | .evict t => (s.station t).state = .evicting ∧ ∀ u r, x.cursor = .queuePass u r → u = t

/-- The schedulers, the queues and the sweep in progress agree, with the queue stores in canonical form. -/
def State.schedulersCoherent (s : State) : Prop :=
  (∀ t : StationId, Table.canonical (Bank.get s.queues t) = true) ∧
  (∀ t : StationId, s.listsActive t) ∧ (∀ t : StationId, s.queuesFollowStation t) ∧ s.sweepHoldsQueues

end Sys2Proof.Machine
end

