-- ==== Sys2Proof/Certificates/Slice0/Obligations.lean ====
section
/-! DEFINITION. The statements about the part, and the words they are written in. A hypothesis speaks of the state and
of the frame that stands or arrives; a result is written as the whole next state wherever the rule fixes it. -/

namespace Sys2Proof.Claims

open Sys2Proof.Machine

/-! ### Frames that stand at the head of an ingress queue -/

/-- A frame of this kind with this content after its sequence stands at the head of port p's ingress queue, `rest`
behind it, and the answer list has room (R165). -/
abbrev Offered (s : State) (p : PortId) (kind : FrameKind) (f : IngressFrame) (rest : List IngressFrame)
    (body : List Byte) : Prop :=
  (s.port p).ingress = f :: rest ∧ f.kind = kind ∧ f.body = body ∧ (s.port p).answers.length < 8

/-- A CONTROL frame with this request code and these parameters is offered, its parameter length right (R198). -/
abbrev Requested (s : State) (p : PortId) (f : IngressFrame) (rest : List IngressFrame) (code : Byte)
    (params : List Byte) : Prop :=
  Offered s p .control f rest (code :: BitVec.ofNat 8 params.length :: params)

abbrev Enabled (s : State) (t : StationId) : Prop := (s.station t).state = .enabled

/-- An ENABLED station that holds MANAGE (R186). -/
abbrev Manager (s : State) (t : StationId) : Prop := Enabled s t ∧ (s.station t).manage = true

/-- The port after its head frame has left the ingress queue and been answered (R165). -/
def answeredPort (x : PortLink) (rest : List IngressFrame) (a : Answer) : PortLink :=
  { x with
    ingress := rest
    answers := x.answers ++ [a]
    history := (if x.history.length < 4 then x.history else x.history.drop 1) ++ [a] }

/-- State s in which port p's head frame has been answered, with nothing else changed. -/
def answered (s : State) (p : PortId) (rest : List IngressFrame) (a : Answer) : State :=
  { s with ports := Bank.set s.ports p (answeredPort (s.port p) rest a) }

/-- State s in which the CONTROL frame f has received this RESPONSE. -/
def responded (s : State) (p : PortId) (f : IngressFrame) (rest : List IngressFrame) (status : Status)
    (result : List Byte) : State :=
  answered s p rest (.response f.session f.seq status result)

/-- State s with another port p. -/
def withPort (s : State) (p : PortId) (x : PortLink) : State := { s with ports := Bank.set s.ports p x }

/-- State s with another grant table of station t. -/
def withTable (s : State) (t : StationId) (x : Table Slot) : State := { s with tables := Bank.set s.tables t x }

/-- State s with another queue record (t, q). -/
def withQueue (s : State) (t : StationId) (q : Nat) (x : Queue) : State :=
  { s with queues := Bank.set s.queues t (Table.put (Bank.get s.queues t) q x) }

/-- State s with another station record t. -/
def withStation (s : State) (t : StationId) (x : Station) : State := { s with stations := Bank.set s.stations t x }

/-- State s with another scheduler t. -/
def withScheduler (s : State) (t : StationId) (x : Scheduler) : State :=
  { s with schedulers := Bank.set s.schedulers t x }

/-- A flag or choice byte (section 10.3). -/
abbrev IsFlag (b : Byte) : Prop := b = 0#8 ∨ b = 1#8

/-- The rights a rights byte holds (section 10.3). -/
def rightsOf (b : Byte) : Rights := ⟨b.getLsbD 0, b.getLsbD 1, b.getLsbD 2, b.getLsbD 3⟩

/-- The budget three budget bytes hold (section 10.3). -/
def budgetOf (presence hi lo : Byte) : Option Nat := if presence = 0#8 then none else some (number16 hi lo)

/-- Neither the ports but p, nor the Sweep Unit, nor the waiting commands have changed. -/
abbrev OnlyPort (s t : State) (p : PortId) : Prop :=
  (∀ q, q ≠ p → t.port q = s.port q) ∧ t.sweep = s.sweep ∧ t.lastTicket = s.lastTicket ∧
    t.lastCompleted = s.lastCompleted ∧ t.pending = s.pending

/-- The grant tables, their counts and the families have not changed. -/
abbrev GrantsKept (s t : State) : Prop :=
  t.tables = s.tables ∧ t.slotsInUse = s.slotsInUse ∧ t.storeUse = s.storeUse ∧ t.families = s.families

/-- The window of a port whose session has ended (R116). -/
def emptiedWindow (w : Window) : Window :=
  { w with
    outstanding := [], nextSeq := 0, credit := 0, timer := none, retryCount := 0, retransmissions := []
    newDeliveries := [] }

/-- A port whose session has ended, before its new state and link reply are set (R161). -/
def endedPort (x : PortLink) : PortLink :=
  { x with session := none, ingress := [], history := [], answers := [], window := emptiedWindow x.window }

/-- Queue q joins the tail of band b's active list of station t when its list was empty (R84). -/
def joinedIfEmpty (s : State) (t : StationId) (q : Nat) (x : Queue) : Bank Scheduler :=
  if x.list = [] then
    Bank.set s.schedulers t
      { s.scheduler t with
        active := (s.scheduler t).active.set x.band ((s.scheduler t).active.get x.band ++ [q]) }
  else s.schedulers

/-- Station u is ENABLED under generation g (R20, R138). -/
abbrev Current (s : State) (u : StationId) (g : Nat) : Prop := Enabled s u ∧ (s.station u).generation = g

/-- A report of this content at the tail of RQ 0 of station u, whose record is q (R148); its record number is the lowest
FREE one (log 6). -/
def withReport (s : State) (u : StationId) (q : Queue) (content : ReportContent) : State :=
  { s with
    reports := Table.put s.reports (Table.lowestFree s.reports 0)
      ⟨u, content, (s.station u).lostReports, false, none⟩
    freeReports := s.freeReports - 1
    stations := Bank.set s.stations u { s.station u with lostReports := 0 }
    queues := (withQueue s u 0
      { q with
        list := q.list ++ [⟨.report (Table.lowestFree s.reports 0), .normal⟩]
        heldMessages := q.heldMessages + 1 }).queues
    schedulers := joinedIfEmpty s u 0 q }

/-- The lost-report count of station u is one more, at most 255 (R149). -/
def withLostReport (s : State) (u : StationId) : State :=
  withStation s u
    { s.station u with
      lostReports := if (s.station u).lostReports < 255 then (s.station u).lostReports + 1 else 255 }

/-- A report called for to station u: nothing unless u is ENABLED, placed when a record is free and RQ 0 holds fewer than
32, and lost otherwise (R148, R149). -/
def reported (s : State) (u : StationId) (content : ReportContent) : State :=
  if Enabled s u then
    match s.queue u 0 with
    | none => withLostReport s u
    | some q => if s.freeReports ≠ 0 ∧ q.heldMessages < 32 then withReport s u q content else withLostReport s u
  else s

/-- The PORT FENCED reports of port p, to the other MANAGE holders in ascending order (R170). -/
def fenceReported (s : State) (p : PortId) (cause : FenceCause) : State :=
  ((List.finRange 8).filter (fun u => decide (Manager s u ∧ u ≠ p))).foldl
    (fun a u => reported a u (.portFenced p cause)) s

/-- Family f, whose record is y, closes, with its FAMILY CLOSED report when one is called for (R19, R20). -/
def familyClosed (s : State) (f : Nat) (y : Family) : State :=
  let freed := { s with families := Table.erase s.families f }
  if y.reportOnClose = true ∧ Current s y.issuer y.issuerGeneration then
    reported freed y.issuer (.familyClosed f y.tag (if y.state = .opened then .released else .revoked))
  else freed

/-- Family f, whose record is y, has one copy less; without another it closes (R18, R19). -/
def copyEnded (s : State) (f : Nat) (y : Family) : State :=
  if 1 < y.live then { s with families := Table.put s.families f { y with live := y.live - 1 } }
  else familyClosed s f y

/-- Slot (t, n) is FREE again (R4, R5). -/
def slotVacated (s : State) (t : StationId) (n : Nat) : State :=
  { withTable s t (Table.erase (Bank.get s.tables t) n) with
    slotsInUse := Bank.set s.slotsInUse t (Bank.get s.slotsInUse t - 1)
    storeUse := s.storeUse - 1 }

/-- Queue (u, q) with record x, UNUSED when it is PURGING with its mark set and holds nothing (R50). -/
def settled (s : State) (u : StationId) (q : Nat) (x : Queue) : State :=
  if x.state = .purging ∧ x.passComplete = true ∧ x.heldMessages = 0 then
    { s with
      queues := Bank.set s.queues u (Table.erase (Table.put (Bank.get s.queues u) q x) q)
      rqsInUse := if q = 0 then s.rqsInUse else Bank.set s.rqsInUse u (Bank.get s.rqsInUse u - 1) }
  else withQueue s u q x

/-- One message of `cells` cells less is held by queue (u, q); `out` says that it was outstanding (R46 steps 3 and 4). -/
def heldReleased (s : State) (u : StationId) (q cells : Nat) (out : Bool) : State :=
  match s.queue u q with
  | none => s
  | some x =>
    settled { s with heldCells := Bank.set s.heldCells u (Bank.get s.heldCells u - cells) } u q
      { x with
        outstanding := if out then x.outstanding - 1 else x.outstanding
        heldMessages := x.heldMessages - 1
        heldCells := x.heldCells - cells }

/-- Descriptor d, whose record is m, is FREE and its cells are back in the pool (R46 steps 2 to 4). -/
def messageReleased (s : State) (d : Nat) (m : Descriptor) (out : Bool) : State :=
  heldReleased
    { s with
      descriptors := Table.erase s.descriptors d
      freeDescriptors := s.freeDescriptors + 1
      freeCells := s.freeCells + m.cells }
    m.target m.queue m.cells out

/-- Report record k, whose content is m, is back in the report reserve (R46). -/
def reportReleased (s : State) (k : Nat) (m : ReportRecord) (out : Bool) : State :=
  heldReleased { s with reports := Table.erase s.reports k, freeReports := s.freeReports + 1 } m.station 0 0 out

/-- The attached grant of a message holds nothing: there is none, or it is VOID (R46 step 1). -/
abbrev NoGrantHeld (m : Descriptor) : Prop := m.grant = none ∨ ∃ g r, m.grant = some g ∧ g.state = .void r

/-- The freeing of an entry without acknowledgement takes s to the last state, `slots` slots becoming FREE with it; `out`
says that the entry was outstanding (R46). -/
inductive Withdrawn (s : State) (out : Bool) : EntryRef → Nat → State → Prop where
  | plain (d : Nat) (m : Descriptor) : s.descriptor d = some m → NoGrantHeld m →
      Withdrawn s out (.message d) 0 (messageReleased s d m out)
  | inTransit (d : Nat) (m : Descriptor) (g : CarriedGrant) (y : Family) : s.descriptor d = some m →
      m.grant = some g → g.state = .inTransit → s.family g.family = some y →
      Withdrawn s out (.message d) 0 (messageReleased (copyEnded s g.family y) d m out)
  | reserved (d : Nat) (m : Descriptor) (g : CarriedGrant) (n : Nat) (z : Slot) (y : Family) :
      s.descriptor d = some m → m.grant = some g → g.state = .reserved n → s.slot m.target n = some z →
      z.status = .reserved d → s.family z.family = some y →
      Withdrawn s out (.message d) 1 (messageReleased (copyEnded (slotVacated s m.target n) z.family y) d m out)
  | report (k : Nat) (m : ReportRecord) : s.report k = some m →
      Withdrawn s out (.report k) 0 (reportReleased s k m out)

/-- State s in which entry e has no delivery sequence (R39). -/
def seqCleared (s : State) : EntryRef → State
  | .message d =>
    match s.descriptor d with
    | none => s
    | some m => { s with descriptors := Table.put s.descriptors d { m with seq := none } }
  | .report k =>
    match s.report k with
    | none => s
    | some m => { s with reports := Table.put s.reports k { m with seq := none } }

/-- State s in which outstanding entry e stands in queue (u, q) again, behind the first k entries of its list (R39,
R115). -/
def entryReturned (s : State) (u : StationId) (q : Nat) (x : Queue) (e : EntryRef) (k : Nat) : State :=
  { seqCleared s e with
    queues := (withQueue s u q
      { x with
        list := x.list.take k ++ ⟨e, .returned⟩ :: x.list.drop k
        outstanding := x.outstanding - 1 }).queues
    schedulers := joinedIfEmpty s u q x }

/-- The outstanding entries of a session end are dealt with one after the other, those in the first list before: an entry
of a PURGING queue is freed, another returns behind the entries that returned to its queue before it (R115). -/
inductive HandedBack : State → List EntryRef → List EntryRef → State → Prop where
  | none (s : State) (done : List EntryRef) : HandedBack s done [] s
  | freed (s a b : State) (done rest : List EntryRef) (e : EntryRef) (u : StationId) (q slots : Nat) (x : Queue) :
      s.entryQueue e = some (u, q) → s.queue u q = some x → x.state = .purging → Withdrawn s true e slots a →
      HandedBack a (done ++ [e]) rest b → HandedBack s done (e :: rest) b
  | returned (s b : State) (done rest : List EntryRef) (e : EntryRef) (u : StationId) (q : Nat) (x : Queue) :
      s.entryQueue e = some (u, q) → s.queue u q = some x → x.state ≠ .purging →
      HandedBack
        (entryReturned s u q x e (done.countP (fun c => decide (s.entryQueue c = some (u, q))))) (done ++ [e]) rest b →
      HandedBack s done (e :: rest) b

/-- A frame of this content fences port p as a protocol error (R169). -/
abbrev ProtocolFence (s : State) (p : PortId) (content : List Byte) : Prop :=
  (classify content = .unreadable ∨ classify content = .badLinkOpen) ∧
    (s.port p).protocolErrors + 1 = (s.port p).protocolLimit

/-- The expiry that is due on port p fences it (R112, R113). -/
abbrev RetryFence (s : State) (p : PortId) : Prop :=
  (s.port p).window.timer = some 0 ∧ (s.port p).window.retryLimit < (s.port p).window.retryCount + 1

/-- State s in which every running timer has one unit less (R108, R203). -/
def ticked (s : State) : State :=
  { s with
    ports := Bank.mapIdx s.ports
      (fun _ x => { x with window := { x.window with timer := x.window.timer.map (fun n => n - 1) } }) }

/-- The expiries of these ports are taken, one after the other. -/
inductive ExpiriesTaken : State → List PortId → State → Prop where
  | none (s : State) : ExpiriesTaken s [] s
  | more (s a b : State) (p : PortId) (rest : List PortId) : exec (.expiry p) s = .next a → ExpiriesTaken a rest b →
      ExpiriesTaken s (p :: rest) b

end Sys2Proof.Claims

open Sys2Proof Sys2Proof.Machine Sys2Proof.Claims

/-! ### The machine -/

/-- A step with commands waiting runs the front one on the state with the rest of the queue. -/
def Obligations.StepRunsTheFrontCommand : Prop :=
  ∀ (c : Instr) (rest : List Instr) (s : State), s.pending = c :: rest → step s = exec c { s with pending := rest }

/-- A step with no command waiting is one unit of time, which is the model's choice (log 1): every running delivery timer
has one unit less, and nothing else changes where no expiry is due; an expiry that was due before the unit is taken within
it, several in ascending port order (the order is the model's choice, log 5). -/
def Obligations.IdleStepPassesOneUnitOfTime : Prop :=
  ∀ s : State, s.pending = [] →
    ∃ t, step s = .next t ∧
      ((∀ p, (s.port p).window.timer ≠ some 0) →
        (∀ p, t.port p =
          { s.port p with
            window := { (s.port p).window with timer := (s.port p).window.timer.map (fun n => n - 1) } }) ∧
        t = { s with ports := t.ports }) ∧
      ExpiriesTaken (ticked s) ((List.finRange 8).filter (fun p => decide ((s.port p).window.timer = some 0))) t

/-- Every command answers a next state in every state, and leaves the waiting commands alone: the spec names no event
that stops the part. That a command whose event cannot occur in the present state answers next (log 2), and that the
commands that wait stay, at RESET_N too (log 8), is the model's choice. -/
def Obligations.EveryCommandAnswersNextAndKeepsTheQueue : Prop :=
  ∀ (c : Instr) (s : State), ∃ t, exec c s = .next t ∧ t.pending = s.pending

/-! ### Reset -/

/-- RESET_N leaves every block at its power-on value; the commands that wait are not the part's and stay, which is the
model's choice (log 8). -/
def Obligations.ResetReturnsEveryBlockToPowerOn : Prop :=
  ∀ s : State, exec .resetN s = .next { State.reset with pending := s.pending }

/-- After power-on and RESET_N every slot and family is FREE, the counts are 0, no report is held, and station 0 is
ENABLED with grant limit 256. -/
def Obligations.ResetLeavesTheGrantStoreEmpty : Prop :=
  ∀ s t : State, t = State.reset ∨ exec .resetN s = .next t →
    (∀ u n, t.slot u n = none) ∧ (∀ u, Bank.get t.slotsInUse u = 0) ∧ t.storeUse = 0 ∧ (∀ f, t.family f = none) ∧
    (∀ r, t.report r = none) ∧ (t.station 0).state = .enabled ∧ (t.station 0).grantLimit = 256

/-- After power-on and RESET_N every queue is UNUSED but RQ 0 of station 0, and the pool is whole. -/
def Obligations.ResetLeavesTheQueuesAndThePool : Prop :=
  ∀ s t : State, t = State.reset ∨ exec .resetN s = .next t →
    (∀ u q, (u, q) ≠ ((0 : StationId), 0) → t.queue u q = none) ∧
    (∃ x, t.queue 0 0 = some x ∧ x.state = .opened ∧ x.band = .b0 ∧ x.depth = 32 ∧ x.list = []) ∧
    (t.station 0).state = .enabled ∧ (∀ u, Bank.get t.rqsInUse u = 0) ∧ (∀ u, Bank.get t.heldCells u = 0) ∧
    (t.station 0).queueLimit = 16 ∧ (t.station 0).cellQuota = 1024 ∧
    t.freeDescriptors = 1024 ∧ t.freeCells = 3072 ∧ t.freeReports = 64 ∧
    (∀ u b, (t.scheduler u).active.get b = []) ∧ ∀ p, (t.port p).window.outstanding = []

/-- After power-on and RESET_N every window is empty with its default timing, no port has a session, and no SELECTION, ACK
or EXPIRY does anything. That such a command, of any content, then answers the state as it is rests on the model's choice
(logs 2, 3 and 5). -/
def Obligations.ResetLeavesTheWindowsEmpty : Prop :=
  ∀ s t : State, t = State.reset ∨ exec .resetN s = .next t →
    (∀ p, (t.port p).window.outstanding = [] ∧ (t.port p).window.nextSeq = 0 ∧ (t.port p).window.credit = 0 ∧
      (t.port p).window.timer = none ∧ (t.port p).window.retryCount = 0 ∧ (t.port p).window.ackTimeout = 20 ∧
      (t.port p).window.retryLimit = 3 ∧ (t.port p).window.retransmissions = [] ∧
      (t.port p).window.newDeliveries = [] ∧ (t.port p).line = none ∧ (t.port p).session = none) ∧
    ∀ p content, exec (.selection p) t = .next t ∧ exec (.ack p content) t = .next t ∧ exec (.expiry p) t = .next t

/-- After power-on and RESET_N the schedulers, the Sweep Unit, the ports and the station records are as their chapters
say. -/
def Obligations.ResetLeavesSchedulersSweepPortsAndStations : Prop :=
  ∀ s t : State, t = State.reset ∨ exec .resetN s = .next t →
    (∀ u, t.scheduler u = ⟨⟨[], [], [], []⟩, ⟨0, 0, 0⟩, .b1, false⟩) ∧
    t.sweep = none ∧ t.lastTicket = 0 ∧ t.lastCompleted = none ∧
    (∀ p, (t.port p).state = .down ∧ (t.port p).session = none ∧ (t.port p).ingress = [] ∧ (t.port p).history = [] ∧
      (t.port p).answers = [] ∧ (t.port p).linkReply = none ∧ (t.port p).crcErrors = 0 ∧
      (t.port p).protocolErrors = 0 ∧ (t.port p).protocolLimit = 16 ∧ (t.port p).fenceCause = none) ∧
    t.station 0 = ⟨.enabled, 1, true, 256, 16, 1024, 0, ⟨8, 4, 2⟩⟩ ∧
    ∀ u, u ≠ 0 → t.station u = ⟨.absent, 0, false, 0, 0, 0, 0, ⟨8, 4, 2⟩⟩

/-! ### Signal and sessions -/

/-- Signal detect makes a DOWN port IDLE and changes no other; signal loss on a port without a session makes it DOWN,
withdraws what waits for the link, cuts off the frame on it, and lifts a fence. -/
def Obligations.SignalOnAPortWithoutASession : Prop :=
  ∀ (p : PortId) (s : State),
    (exec (.signalDetect p) s = .next
      (if (s.port p).state = .down then withPort s p { s.port p with state := .idle } else s)) ∧
    ((s.port p).state = .down → exec (.signalLoss p) s = .next s) ∧
    ((s.port p).state = .idle ∨ (s.port p).state = .fenced → exec (.signalLoss p) s = .next
      (withPort s p
        { s.port p with
          state := .down, answers := [], linkReply := none, line := none
          protocolErrors := if (s.port p).state = .fenced then 0 else (s.port p).protocolErrors
          window := { (s.port p).window with retransmissions := [], newDeliveries := [] } }))

/-- Signal loss, LINK CLOSE and LINK OPEN end the session of an ACTIVE port: its ingress queue, history, answers and
window are cleared, its settings and counts are kept, the port takes the state of the cause, and no other port, sweep or
waiting command changes. -/
def Obligations.SessionEndClearsThePort : Prop :=
  ∀ (p : PortId) (s : State) (b n : Byte), (s.port p).state = .active →
    (∃ t, exec (.signalLoss p) s = .next t ∧ OnlyPort s t p ∧
      t.port p = { endedPort (s.port p) with state := .down, linkReply := none, line := none }) ∧
    (∃ t, exec (.linkClose p (sealFrame [0x04, 2, b])) s = .next t ∧ OnlyPort s t p ∧
      t.port p = { endedPort (s.port p) with state := .idle, linkReply := some .closed }) ∧
    (1 ≤ n.toNat → n.toNat ≤ 15 →
      ∃ t, exec (.linkOpen p (sealFrame [0x04, 1, n])) s = .next t ∧ OnlyPort s t p ∧
        t.port p =
          { endedPort (s.port p) with
            state := .active, session := some ⟨n.toNat, 0, 0⟩, linkReply := some (.opened n.toNat) })

/-- A session end returns the outstanding deliveries of one OPEN or SEALED queue to the head of its list in their order,
without their delivery sequences; no slot, family, held count or pool count changes. Deliveries of several queues are
dealt with oldest first, those of a PURGING queue being freed with their RESERVED slots (report record numbers are the
model's choice, log 6). This holds for signal loss, LINK CLOSE, LINK OPEN and both causes of a fencing; a fencing calls
for its reports after it. -/
def Obligations.SessionEndReturnsDeliveriesInOrder : Prop :=
  (∀ (p : PortId) (s : State) (b n : Byte) (content : List Byte) (u : StationId) (q : Nat) (x : Queue),
    (s.port p).state = .active → (s.port p).window.outstanding ≠ [] →
    (∀ e ∈ (s.port p).window.outstanding, s.entryQueue e = some (u, q)) →
    s.queue u q = some x → x.state ≠ .purging →
    ∀ c, (c = .signalLoss p ∨ c = .linkClose p (sealFrame [0x04, 2, b]) ∨
        (c = .linkOpen p (sealFrame [0x04, 1, n]) ∧ 1 ≤ n.toNat ∧ n.toNat ≤ 15) ∨
        ((∀ v, v ≠ p → ¬ Manager s v) ∧
          ((c = .unreadableFrame p content ∧ ProtocolFence s p content) ∨ (c = .expiry p ∧ RetryFence s p)))) →
      ∃ t, exec c s = .next t ∧ GrantsKept s t ∧
        t.queue u q = some
          { x with
            list := (s.port p).window.outstanding.map (fun e => ⟨e, .returned⟩) ++ x.list
            outstanding := x.outstanding - (s.port p).window.outstanding.length } ∧
        (∀ v r, (v, r) ≠ (u, q) → t.queue v r = s.queue v r) ∧
        t.schedulers = joinedIfEmpty s u q x ∧
        (∀ d, t.descriptor d = (s.descriptor d).map
          (fun y => if .message d ∈ (s.port p).window.outstanding then { y with seq := none } else y)) ∧
        (∀ r, t.report r = (s.report r).map
          (fun y => if .report r ∈ (s.port p).window.outstanding then { y with seq := none } else y)) ∧
        t.freeDescriptors = s.freeDescriptors ∧ t.freeCells = s.freeCells ∧ t.freeReports = s.freeReports ∧
        t.heldCells = s.heldCells ∧ t.rqsInUse = s.rqsInUse ∧ t.stations = s.stations) ∧
  ∀ (p : PortId) (s h : State) (b n : Byte) (content : List Byte), (s.port p).state = .active →
    HandedBack s [] (s.port p).window.outstanding h →
    (exec (.signalLoss p) s = .next
      (withPort h p { endedPort (s.port p) with state := .down, linkReply := none, line := none })) ∧
    (exec (.linkClose p (sealFrame [0x04, 2, b])) s = .next
      (withPort h p { endedPort (s.port p) with state := .idle, linkReply := some .closed })) ∧
    (1 ≤ n.toNat → n.toNat ≤ 15 → exec (.linkOpen p (sealFrame [0x04, 1, n])) s = .next
      (withPort h p
        { endedPort (s.port p) with
          state := .active, session := some ⟨n.toNat, 0, 0⟩, linkReply := some (.opened n.toNat) })) ∧
    (ProtocolFence s p content → exec (.unreadableFrame p content) s = .next
      (fenceReported
        (withPort h p
          { endedPort (s.port p) with
            state := .fenced, fenceCause := some .protocol, linkReply := none
            protocolErrors := (s.port p).protocolLimit })
        p .protocol)) ∧
    (RetryFence s p → exec (.expiry p) s = .next
      (fenceReported
        (withPort h p
          { endedPort (s.port p) with state := .fenced, fenceCause := some .retries, linkReply := none })
        p .retries))

/-- LINK OPEN opens a session on an IDLE port, LINK CLOSE is answered CLOSED, and LINK PING is answered PONG on an IDLE
or ACTIVE port unless a reply waits. -/
def Obligations.LinkFramesOpenCloseAndPing : Prop :=
  ∀ (p : PortId) (s : State) (b n : Byte),
    ((s.port p).state = .idle →
      (1 ≤ n.toNat → n.toNat ≤ 15 → exec (.linkOpen p (sealFrame [0x04, 1, n])) s = .next
        (withPort s p
          { endedPort (s.port p) with
            state := .active, session := some ⟨n.toNat, 0, 0⟩, linkReply := some (.opened n.toNat) })) ∧
      exec (.linkClose p (sealFrame [0x04, 2, b])) s = .next
        (withPort s p { s.port p with linkReply := some .closed })) ∧
    ((s.port p).state = .idle ∨ (s.port p).state = .active →
      ((s.port p).linkReply = none → exec (.linkPing p (sealFrame [0x04, 3, b])) s = .next
        (withPort s p
          { s.port p with
            linkReply := some (.pong ((s.port p).state = .active) (((s.port p).session.map Session.number).getD 0)) })) ∧
      ((s.port p).linkReply ≠ none → exec (.linkPing p (sealFrame [0x04, 3, b])) s = .next s))

/-! ### Frames that are discarded, protocol errors and fencing -/

/-- A frame with a CRC error raises the CRC error count of an IDLE or ACTIVE port, saturating; a frame that cannot be
read is a protocol error of an ACTIVE port, and nothing on another. -/
def Obligations.DiscardedFramesAreCounted : Prop :=
  ∀ (p : PortId) (content : List Byte) (s : State),
    (crcOk content = false → exec (.crcErrorFrame p content) s = .next
      (if (s.port p).state = .idle ∨ (s.port p).state = .active then
        withPort s p { s.port p with crcErrors := if (s.port p).crcErrors < 65535 then (s.port p).crcErrors + 1 else 65535 }
      else s)) ∧
    (classify content = .unreadable ∨ classify content = .badLinkOpen →
      ((s.port p).state ≠ .active → exec (.unreadableFrame p content) s = .next s) ∧
      ((s.port p).state = .active → (s.port p).protocolErrors + 1 ≠ (s.port p).protocolLimit →
        exec (.unreadableFrame p content) s = .next
          (withPort s p { s.port p with protocolErrors := (s.port p).protocolErrors + 1 })))

/-- The protocol error that brings the count to the limit fences the port with cause PROTOCOL. -/
def Obligations.ProtocolErrorAtTheLimitFencesThePort : Prop :=
  ∀ (p : PortId) (content : List Byte) (s : State),
    (classify content = .unreadable ∨ classify content = .badLinkOpen) → (s.port p).state = .active →
    (s.port p).protocolErrors + 1 = (s.port p).protocolLimit →
    ∃ t, exec (.unreadableFrame p content) s = .next t ∧ OnlyPort s t p ∧
      t.port p =
        { endedPort (s.port p) with
          state := .fenced, fenceCause := some .protocol, linkReply := none
          protocolErrors := (s.port p).protocolLimit }

/-- A fencing with nothing outstanding calls for a PORT FENCED report to the one other MANAGE holder: it is placed at
the tail of RQ 0 when a record is free and RQ 0 holds fewer than 32, and otherwise raises the lost-report count. The
number of the report record is the model's choice (log 6). -/
def Obligations.FencingReportIsPlacedOrCounted : Prop :=
  ∀ (p u : PortId) (content : List Byte) (s : State) (q : Queue),
    (classify content = .unreadable ∨ classify content = .badLinkOpen) → (s.port p).state = .active →
    (s.port p).protocolErrors + 1 = (s.port p).protocolLimit → (s.port p).window.outstanding = [] →
    u ≠ p → Manager s u → (∀ v, v ≠ p → v ≠ u → ¬ Manager s v) → s.queue u 0 = some q →
    ∃ t, exec (.unreadableFrame p content) s = .next t ∧ GrantsKept s t ∧ t.descriptors = s.descriptors ∧
      (s.freeReports ≠ 0 → q.heldMessages < 32 →
        t.reports = Table.put s.reports (Table.lowestFree s.reports 0)
          ⟨u, .portFenced p .protocol, (s.station u).lostReports, false, none⟩ ∧
        t.freeReports = s.freeReports - 1 ∧
        t.queues = (withQueue s u 0
          { q with
            list := q.list ++ [⟨.report (Table.lowestFree s.reports 0), .normal⟩]
            heldMessages := q.heldMessages + 1 }).queues ∧
        t.schedulers = joinedIfEmpty s u 0 q ∧
        t.stations = Bank.set s.stations u { s.station u with lostReports := 0 }) ∧
      (s.freeReports = 0 ∨ 32 ≤ q.heldMessages →
        t.reports = s.reports ∧ t.freeReports = s.freeReports ∧ t.queues = s.queues ∧ t.schedulers = s.schedulers ∧
        t.stations = Bank.set s.stations u
          { s.station u with
            lostReports := if (s.station u).lostReports < 255 then (s.station u).lostReports + 1 else 255 })

/-! ### MESSAGE and CONTROL frames arrive -/

namespace Sys2Proof.Claims

/-- A readable MESSAGE or CONTROL frame (R198). -/
abbrev ReadableFrame (kind : FrameKind) (ses : Byte) (body : List Byte) : Prop :=
  ses.toNat ≤ 15 ∧ kind.fixedRest ≤ body.length ∧ body.length + 7 ≤ 512

/-- The content of a MESSAGE or CONTROL frame (R198). -/
def ingressContent (kind : FrameKind) (ses : Byte) (seq : SeqNum) (body : List Byte) : List Byte :=
  sealFrame (kind.byte :: ses :: seq :: body)

/-- The sequence n is one of the last k before a (R164). -/
abbrev AmongAccepted (a n : SeqNum) (k : Nat) : Prop := 1 ≤ (a - n).toNat ∧ (a - n).toNat ≤ k

end Sys2Proof.Claims

/-- A frame that carries the arrival sequence is queued when the ingress queue holds fewer than 4, and is otherwise a
protocol error. -/
def Obligations.ArrivalAtTheArrivalSequence : Prop :=
  ∀ (p : PortId) (s : State) (kind : FrameKind) (ses : Byte) (body : List Byte) (x : Session),
    ReadableFrame kind ses body → (s.port p).state = .active → (s.port p).session = some x → ses.toNat = x.number →
    ((s.port p).ingress.length < 4 →
      exec (.ingressArrival p (ingressContent kind ses x.arrival body)) s = .next
        (withPort s p
          { s.port p with
            ingress := (s.port p).ingress ++ [⟨kind, x.number, x.arrival, body⟩]
            session := some ⟨x.number, x.arrival + 1, if x.accepted < 4 then x.accepted + 1 else 4⟩ })) ∧
    (4 ≤ (s.port p).ingress.length → (s.port p).protocolErrors + 1 ≠ (s.port p).protocolLimit →
      exec (.ingressArrival p (ingressContent kind ses x.arrival body)) s = .next
        (withPort s p { s.port p with protocolErrors := (s.port p).protocolErrors + 1 }))

/-- A frame of another sequence is replayed from the history, discarded while its first copy waits, or answered
OUT_OF_SEQUENCE with the expected sequence; with 8 answers waiting nothing is produced. -/
def Obligations.ArrivalOfAnotherSequence : Prop :=
  ∀ (p : PortId) (s : State) (kind : FrameKind) (ses : Byte) (seq : SeqNum) (body : List Byte) (x : Session),
    ReadableFrame kind ses body → (s.port p).state = .active → (s.port p).session = some x → ses.toNat = x.number →
    seq ≠ x.arrival →
    (∀ a, AmongAccepted x.arrival seq x.accepted → (s.port p).history.find? (fun b => b.seq == seq) = some a →
      (s.port p).answers.length < 8 →
      exec (.ingressArrival p (ingressContent kind ses seq body)) s = .next
        (withPort s p { s.port p with answers := (s.port p).answers ++ [a] })) ∧
    (AmongAccepted x.arrival seq x.accepted → (∀ a ∈ (s.port p).history, a.seq ≠ seq) →
      exec (.ingressArrival p (ingressContent kind ses seq body)) s = .next s) ∧
    (¬ AmongAccepted x.arrival seq x.accepted → (s.port p).answers.length < 8 →
      exec (.ingressArrival p (ingressContent kind ses seq body)) s = .next
        (withPort s p
          { s.port p with
            answers := (s.port p).answers ++
              [match kind with
                | .message => .verdict x.number seq .outOfSequence (.expected x.arrival)
                | .control => .response x.number seq .outOfSequence [x.arrival]] })) ∧
    (8 ≤ (s.port p).answers.length → exec (.ingressArrival p (ingressContent kind ses seq body)) s = .next s)

/-- A MESSAGE, CONTROL or ACK frame changes nothing on a port that is not ACTIVE, or with another session number. -/
def Obligations.FramesOutsideTheSessionAreDiscarded : Prop :=
  ∀ (p : PortId) (s : State) (kind : FrameKind) (ses : Byte) (seq : SeqNum) (body : List Byte) (ind cr : Byte),
    ReadableFrame kind ses body → (ind = 0#8 ∨ ind = 1#8) → cr.toNat ≤ 15 →
    ((s.port p).state ≠ .active ∨ ∀ x ∈ (s.port p).session, ses.toNat ≠ x.number) →
    exec (.ingressArrival p (ingressContent kind ses seq body)) s = .next s ∧
    exec (.ack p (sealFrame [0x03, ses, ind, seq, cr])) s = .next s

/-! ### Acknowledgement -/

/-- An ACK without a sequence adds its credit, saturating at 15, and changes nothing else; an ACK of a sequence that is
not outstanding is a protocol error and adds none. -/
def Obligations.AckThatCompletesNothing : Prop :=
  ∀ (p : PortId) (s : State) (ses seq cr : Byte) (x : Session),
    ses.toNat ≤ 15 → cr.toNat ≤ 15 → (s.port p).state = .active → (s.port p).session = some x → ses.toNat = x.number →
    (exec (.ack p (sealFrame [0x03, ses, 0, seq, cr])) s = .next
      (withPort s p
        { s.port p with
          window := { (s.port p).window with credit := min 15 ((s.port p).window.credit + cr.toNat) } })) ∧
    ((∀ e ∈ (s.port p).window.outstanding, s.entrySeq e ≠ some seq) →
      (s.port p).protocolErrors + 1 ≠ (s.port p).protocolLimit →
      exec (.ack p (sealFrame [0x03, ses, 1, seq, cr])) s = .next
        (withPort s p { s.port p with protocolErrors := (s.port p).protocolErrors + 1 }))

/-- An ACK of an outstanding sequence completes every entry up to it: they leave the outstanding list, their unsent
frames are withdrawn, the retry count is 0, the timer restarts or stops, and the credit is added. -/
def Obligations.AckCompletesUpToItsSequence : Prop :=
  ∀ (p : PortId) (s : State) (ses seq cr : Byte) (x : Session) (before after : List EntryRef) (e : EntryRef),
    ses.toNat ≤ 15 → cr.toNat ≤ 15 → (s.port p).state = .active → (s.port p).session = some x → ses.toNat = x.number →
    (s.port p).window.outstanding = before ++ e :: after → s.entrySeq e = some seq →
    (∀ e' ∈ before, s.entrySeq e' ≠ some seq) →
    ∃ t, exec (.ack p (sealFrame [0x03, ses, 1, seq, cr])) s = .next t ∧ OnlyPort s t p ∧
      t.port p =
        { s.port p with
          window :=
            { (s.port p).window with
              outstanding := after
              retryCount := 0
              timer := if after = [] then none else some (s.port p).window.ackTimeout
              credit := min 15 ((s.port p).window.credit + cr.toNat)
              retransmissions := (s.port p).window.retransmissions.filter
                (fun f => decide (f.seq ∉ (before ++ [e]).filterMap s.entrySeq))
              newDeliveries := (s.port p).window.newDeliveries.filter
                (fun f => decide (f.seq ∉ (before ++ [e]).filterMap s.entrySeq)) } }

namespace Sys2Proof.Claims

/-- The port after an ACK of its oldest delivery alone, `after` behind it in the outstanding list (R111). -/
def oldestAcked (x : PortLink) (seq : SeqNum) (after : List EntryRef) (credit : Nat) : PortLink :=
  { x with
    window :=
      { x.window with
        outstanding := after
        retryCount := 0
        timer := if after = [] then none else some x.window.ackTimeout
        credit := min 15 (x.window.credit + credit)
        retransmissions := x.window.retransmissions.filter (fun f => decide (f.seq ≠ seq))
        newDeliveries := x.window.newDeliveries.filter (fun f => decide (f.seq ≠ seq)) } }

end Sys2Proof.Claims

/-- The ACK of a message whose grant is RESERVED defines the slot when the family is OPEN and frees it, lowering the
live count, when the family is REVOKING; in both cases the descriptor and its cells return to the pool and the queue
holds one message less. The last copy of a REVOKING family closes it in the same event, and a PURGING queue with its mark
set that then holds nothing becomes UNUSED. A message whose grant holds nothing, and a report, are freed likewise (report
record numbers are the model's choice, log 6). -/
def Obligations.AckDefinesTheReservedSlot : Prop :=
  (∀ (p : PortId) (s : State) (ses seq cr : Byte) (x : Session) (after : List EntryRef) (d n : Nat) (m : Descriptor)
    (g : CarriedGrant) (z : Slot) (y : Family) (q : Queue),
    ses.toNat ≤ 15 → cr.toNat ≤ 15 → (s.port p).state = .active → (s.port p).session = some x → ses.toNat = x.number →
    (s.port p).window.outstanding = .message d :: after → s.descriptor d = some m → m.seq = some seq →
    m.grant = some g → g.state = .reserved n → s.slot m.target n = some z → z.status = .reserved d →
    s.family z.family = some y → 1 < y.live → s.queue m.target m.queue = some q →
    ¬ (q.state = .purging ∧ q.passComplete = true ∧ q.heldMessages ≤ 1) →
    ∃ t, exec (.ack p (sealFrame [0x03, ses, 1, seq, cr])) s = .next t ∧
      (y.state = .opened →
        t.tables = (withTable s m.target (Table.put (Bank.get s.tables m.target) n { z with status := .defined })).tables ∧
        t.slotsInUse = s.slotsInUse ∧ t.storeUse = s.storeUse ∧ t.families = s.families) ∧
      (y.state = .revoking →
        t.tables = (withTable s m.target (Table.erase (Bank.get s.tables m.target) n)).tables ∧
        t.slotsInUse = Bank.set s.slotsInUse m.target (Bank.get s.slotsInUse m.target - 1) ∧
        t.storeUse = s.storeUse - 1 ∧ t.families = Table.put s.families z.family { y with live := y.live - 1 }) ∧
      t.descriptors = Table.erase s.descriptors d ∧ t.freeDescriptors = s.freeDescriptors + 1 ∧
      t.freeCells = s.freeCells + m.cells ∧
      t.queues = (withQueue s m.target m.queue
        { q with
          outstanding := q.outstanding - 1
          heldMessages := q.heldMessages - 1
          heldCells := q.heldCells - m.cells }).queues ∧
      t.heldCells = Bank.set s.heldCells m.target (Bank.get s.heldCells m.target - m.cells) ∧
      t.reports = s.reports ∧ t.stations = s.stations ∧ t.schedulers = s.schedulers ∧ t.rqsInUse = s.rqsInUse) ∧
  ∀ (p : PortId) (s : State) (ses seq cr : Byte) (x : Session) (after : List EntryRef),
    ses.toNat ≤ 15 → cr.toNat ≤ 15 → (s.port p).state = .active → (s.port p).session = some x → ses.toNat = x.number →
    let acked := fun h : State => withPort h p (oldestAcked (s.port p) seq after cr.toNat)
    (∀ d m, (s.port p).window.outstanding = .message d :: after → s.descriptor d = some m → m.seq = some seq →
      (NoGrantHeld m →
        exec (.ack p (sealFrame [0x03, ses, 1, seq, cr])) s = .next (acked (messageReleased s d m true))) ∧
      ∀ g n z y, m.grant = some g → g.state = .reserved n → s.slot m.target n = some z → z.status = .reserved d →
        s.family z.family = some y →
        (y.state = .opened → exec (.ack p (sealFrame [0x03, ses, 1, seq, cr])) s = .next
          (acked (messageReleased
            (withTable s m.target (Table.put (Bank.get s.tables m.target) n { z with status := .defined })) d m true))) ∧
        (y.state = .revoking → exec (.ack p (sealFrame [0x03, ses, 1, seq, cr])) s = .next
          (acked (messageReleased (copyEnded (slotVacated s m.target n) z.family y) d m true)))) ∧
    (∀ k m, (s.port p).window.outstanding = .report k :: after → s.report k = some m → m.seq = some seq →
      exec (.ack p (sealFrame [0x03, ses, 1, seq, cr])) s = .next (acked (reportReleased s k m true)))

/-! ### Admission -/

namespace Sys2Proof.Claims

/-- The content after the sequence of a MESSAGE frame without an attach section (R198). -/
def plainMessage (s1 s0 exp l1 l0 : Byte) (payload : List Byte) : List Byte := s1 :: s0 :: exp :: 0 :: l1 :: l0 :: payload

/-- The content after the sequence of a MESSAGE frame with an attach section (R198). -/
def attachingMessage (s1 s0 exp l1 l0 c1 c0 mode r b2 b1 b0 : Byte) (payload : List Byte) : List Byte :=
  s1 :: s0 :: exp :: 1 :: l1 :: l0 :: c1 :: c0 :: mode :: r :: b2 :: b1 :: b0 :: payload

/-- The cells of a payload: its length divided by 64, rounded up (R66). -/
def cellsNeeded (payload : List Byte) : Nat := (payload.length + 63) / 64

/-- What checks 2 to 8 and 10 to 12 read when they pass: an ENABLED sender, its DEFINED sending slot x with the rights
asked for and a budget left, the OPEN family y of that slot, and the OPEN target queue q with room in the queue, in the
target's quota and in the pool (R65 to R69, R73 to R75). -/
abbrev MayBeAccepted (s : State) (p : PortId) (n : Nat) (expedite : Bool) (payload : List Byte) (x : Slot) (y : Family)
    (q : Queue) : Prop :=
  Enabled s p ∧ payload.length ≤ 448 ∧ n ≠ 0 ∧ s.slot p n = some x ∧ x.status = .defined ∧ x.rights.send = true ∧
    (expedite = true → x.rights.expedite = true) ∧ s.family x.family = some y ∧ y.state = .opened ∧
    s.queue y.issuer y.target = some q ∧ q.state = .opened ∧ x.budget ≠ some 0 ∧ q.heldMessages < q.depth ∧
    Bank.get s.heldCells y.issuer + cellsNeeded payload ≤ (s.station y.issuer).cellQuota ∧ s.freeDescriptors ≠ 0 ∧
    cellsNeeded payload ≤ s.freeCells

/-- The verdict of a MESSAGE frame by the first failing check of R63 from check 2 on; `attach` is the failure of checks
9.1 to 9.6, none for a frame without an attach section. -/
def checkedVerdict (s : State) (p : PortId) (n : Nat) (expedite : Bool) (length : Nat) (attach : Option Verdict) :
    Verdict :=
  if (s.station p).state ≠ .enabled then .notEnabled
  else if 448 < length then .tooLong
  else
    match s.slot p n with
    | none => .noGrant
    | some x =>
      if x.status ≠ .defined then .noGrant
      else if x.rights.send = false then .noRight
      else if expedite = true ∧ x.rights.expedite = false then .noRight
      else
        match s.family x.family with
        | none => .familyRevoked
        | some y =>
          if y.state = .revoking then .familyRevoked
          else
            match s.queue y.issuer y.target with
            | none => .queueClosed
            | some q =>
              if q.state ≠ .opened then .queueClosed
              else if x.budget = some 0 then .budgetSpent
              else
                match attach with
                | some v => v
                | none =>
                  if q.depth ≤ q.heldMessages then .queueFull
                  else if (s.station y.issuer).cellQuota < Bank.get s.heldCells y.issuer + (length + 63) / 64 then
                    .quotaFull
                  else if s.freeDescriptors = 0 ∨ s.freeCells < (length + 63) / 64 then .poolEmpty
                  else .accepted

/-- The verdict of a MESSAGE frame without an attach section. -/
def plainVerdict (s : State) (p : PortId) (n : Nat) (expedite : Bool) (length : Nat) : Verdict :=
  checkedVerdict s p n expedite length none

/-- Mode, rights and budget bytes of an attach section that are well formed: MOVE with any, SHARE with rights and a budget
it may ask for (R64). -/
abbrev AttachDefined (mode r b2 b1 b0 : Byte) : Prop :=
  mode = 2#8 ∨ (mode = 1#8 ∧ r.toNat < 16 ∧ r ≠ 0#8 ∧ IsFlag b2 ∧ budgetOf b2 b1 b0 ≠ some 0)

/-- The first failing one of checks 9.1 to 9.6 on carried slot c of sender p, whose sending slot is n; mode is 1 for SHARE
and 2 for MOVE (R70, R71, R72). -/
def attachFault (s : State) (p : PortId) (n c : Nat) (mode : Byte) (rights : Rights) (budget : Option Nat) :
    Option Verdict :=
  if mode = 2#8 ∧ c = n then some .attachSame
  else
    match s.slot p c with
    | none => some .attachNoGrant
    | some z =>
      if z.status ≠ .defined then some .attachNoGrant
      else if (mode = 1#8 ∧ z.rights.share = false) ∨ (mode = 2#8 ∧ z.rights.move = false) then some .attachNoRight
      else if ¬ ∃ w, s.family z.family = some w ∧ w.state = .opened then some .attachRevoked
      else if mode = 2#8 then none
      else if rights.within z.rights = false then some .attachRightsExceed
      else
        match z.budget, budget with
        | none, _ => none
        | some _, none => some .attachBudget
        | some source, some copy =>
          if source < (if c = n then copy + 1 else copy) then some .attachBudget else none

/-- The descriptor of an accepted message (R77). -/
def newDescriptor (p : PortId) (expedite : Bool) (payload : List Byte) (y : Family) (g : Option CarriedGrant) :
    Descriptor :=
  { origin := p, target := y.issuer, queue := y.target, tag := y.tag, expedite := expedite, repeated := false
    payload := payload, cells := cellsNeeded payload, seq := none, grant := g }

/-- State s with a message listed in the target queue, whose list becomes `list` (R77). -/
def withMessage (s : State) (d : Descriptor) (q : Queue) (list : List ListEntry) : State :=
  { s with
    descriptors := Table.put s.descriptors (Table.lowestFree s.descriptors 0) d
    freeDescriptors := s.freeDescriptors - 1
    freeCells := s.freeCells - d.cells
    queues := (withQueue s d.target d.queue
      { q with list := list, heldMessages := q.heldMessages + 1, heldCells := q.heldCells + d.cells }).queues
    heldCells := Bank.set s.heldCells d.target (Bank.get s.heldCells d.target + d.cells)
    schedulers := joinedIfEmpty s d.target d.queue q }

end Sys2Proof.Claims

/-- A MESSAGE frame without an attach section that passes every check is committed: the sending budget falls by one, the
message is listed at the tail of the target queue, or behind its returned and expedited entries when expedite is asked,
the pool and held counts change by its cells, and the VERDICT is ACCEPTED with the budget left. The number of the
descriptor is the model's choice (log 6). -/
def Obligations.AcceptedMessageIsListed : Prop :=
  ∀ (p : PortId) (s : State) (f : IngressFrame) (rest : List IngressFrame) (s1 s0 exp l1 l0 : Byte)
    (payload : List Byte) (x : Slot) (y : Family) (q : Queue) (before after : List ListEntry),
    Offered s p .message f rest (plainMessage s1 s0 exp l1 l0 payload) → IsFlag exp →
    number16 l1 l0 = payload.length → MayBeAccepted s p (number16 s1 s0) (exp = 1#8) payload x y q →
    q.list = before ++ after → (∀ e ∈ before, e.segment ≠ .normal) → (∀ e ∈ after, e.segment = .normal) →
    exec (.admission p) s = .next
      (answered
        (withMessage
          (withTable s p (Table.put (Bank.get s.tables p) (number16 s1 s0) { x with budget := x.budget.map (fun b => b - 1) }))
          (newDescriptor p (exp = 1#8) payload y none) q
          (if exp = 1#8 then before ++ ⟨.message (Table.lowestFree s.descriptors 0), .expedited⟩ :: after
            else q.list ++ [⟨.message (Table.lowestFree s.descriptors 0), .normal⟩]))
        p rest (.verdict f.session f.seq .accepted (.budget (x.budget.map (fun b => b - 1)))))

/-- A MESSAGE frame receives the verdict of its first failing check, and a refused one changes nothing but its port's
queue, answers and history: for a frame without an attach section, and for one whose attach section, with SHARE or MOVE,
adds checks 9.1 to 9.6. -/
def Obligations.FirstFailingCheckGivesTheVerdict : Prop :=
  (∀ (p : PortId) (s : State) (f : IngressFrame) (rest : List IngressFrame) (s1 s0 exp l1 l0 : Byte)
    (payload : List Byte),
    Offered s p .message f rest (plainMessage s1 s0 exp l1 l0 payload) → IsFlag exp →
    number16 l1 l0 = payload.length → number16 s1 s0 ≠ 0 →
    plainVerdict s p (number16 s1 s0) (exp = 1#8) payload.length ≠ .accepted →
    exec (.admission p) s = .next
      (answered s p rest
        (.verdict f.session f.seq (plainVerdict s p (number16 s1 s0) (exp = 1#8) payload.length) .zero))) ∧
  ∀ (p : PortId) (s : State) (f : IngressFrame) (rest : List IngressFrame)
    (s1 s0 exp l1 l0 c1 c0 mode r b2 b1 b0 : Byte) (payload : List Byte),
    Offered s p .message f rest (attachingMessage s1 s0 exp l1 l0 c1 c0 mode r b2 b1 b0 payload) → IsFlag exp →
    number16 l1 l0 = payload.length → number16 s1 s0 ≠ 0 → number16 c1 c0 ≠ 0 → AttachDefined mode r b2 b1 b0 →
    let fault := attachFault s p (number16 s1 s0) (number16 c1 c0) mode (rightsOf r) (budgetOf b2 b1 b0)
    let verdict := checkedVerdict s p (number16 s1 s0) (exp = 1#8) payload.length fault
    verdict ≠ .accepted →
    exec (.admission p) s = .next (answered s p rest (.verdict f.session f.seq verdict .zero))

/-- A grant attached with SHARE travels as an IN_TRANSIT copy, its budget taken from the carried slot and its family's
live count raised, the sending slot itself shared losing its own unit and the copy's budget; one attached with MOVE
travels with the slot's rights and budget, the slot becoming FREE. The number of the descriptor is the model's choice
(log 6). -/
def Obligations.AttachedGrantTravelsInTransit : Prop :=
  (∀ (p : PortId) (s : State) (f : IngressFrame) (rest : List IngressFrame)
    (s1 s0 exp l1 l0 c1 c0 mode r b2 b1 b0 : Byte) (payload : List Byte) (x z : Slot) (y w : Family) (q : Queue),
    Offered s p .message f rest (attachingMessage s1 s0 exp l1 l0 c1 c0 mode r b2 b1 b0 payload) → IsFlag exp →
    number16 l1 l0 = payload.length → MayBeAccepted s p (number16 s1 s0) (exp = 1#8) payload x y q →
    Table.canonical (Bank.get s.tables p) = true →
    number16 c1 c0 ≠ 0 → number16 c1 c0 ≠ number16 s1 s0 → s.slot p (number16 c1 c0) = some z → z.status = .defined →
    s.family z.family = some w → w.state = .opened →
    (mode = 1#8 → z.rights.share = true → r.toNat < 16 → r ≠ 0#8 → IsFlag b2 → budgetOf b2 b1 b0 ≠ some 0 →
      (rightsOf r).within z.rights = true →
      (∀ b, z.budget = some b → ∃ k, budgetOf b2 b1 b0 = some k ∧ k ≤ b) →
      ∃ t, exec (.admission p) s = .next t ∧
        t.slot p (number16 c1 c0) = some { z with budget := z.budget.map (fun b => b - (budgetOf b2 b1 b0).getD 0) } ∧
        t.slot p (number16 s1 s0) = some { x with budget := x.budget.map (fun b => b - 1) } ∧
        t.family z.family = some { w with live := w.live + 1 } ∧ (∀ g, g ≠ z.family → t.family g = s.family g) ∧
        t.descriptor (Table.lowestFree s.descriptors 0) = some (newDescriptor p (exp = 1#8) payload y
          (some ⟨z.family, rightsOf r, budgetOf b2 b1 b0, .inTransit⟩)) ∧
        t.slotsInUse = s.slotsInUse ∧ t.storeUse = s.storeUse ∧
        t.port p = answeredPort (s.port p) rest
          (.verdict f.session f.seq .accepted (.budget (x.budget.map (fun b => b - 1))))) ∧
    (mode = 2#8 → z.rights.move = true →
      ∃ t, exec (.admission p) s = .next t ∧
        t.slot p (number16 c1 c0) = none ∧
        t.slot p (number16 s1 s0) = some { x with budget := x.budget.map (fun b => b - 1) } ∧
        t.families = s.families ∧
        t.descriptor (Table.lowestFree s.descriptors 0) = some (newDescriptor p (exp = 1#8) payload y
          (some ⟨z.family, z.rights, z.budget, .inTransit⟩)) ∧
        t.slotsInUse = Bank.set s.slotsInUse p (Bank.get s.slotsInUse p - 1) ∧ t.storeUse = s.storeUse - 1 ∧
        t.port p = answeredPort (s.port p) rest
          (.verdict f.session f.seq .accepted (.budget (x.budget.map (fun b => b - 1)))))) ∧
  ∀ (p : PortId) (s : State) (f : IngressFrame) (rest : List IngressFrame)
    (s1 s0 exp l1 l0 r b2 b1 b0 : Byte) (payload : List Byte) (x : Slot) (y : Family) (q : Queue),
    Offered s p .message f rest (attachingMessage s1 s0 exp l1 l0 s1 s0 1 r b2 b1 b0 payload) → IsFlag exp →
    number16 l1 l0 = payload.length → MayBeAccepted s p (number16 s1 s0) (exp = 1#8) payload x y q →
    x.rights.share = true → r.toNat < 16 → r ≠ 0#8 → IsFlag b2 → budgetOf b2 b1 b0 ≠ some 0 →
    (rightsOf r).within x.rights = true →
    (∀ b, x.budget = some b → ∃ k, budgetOf b2 b1 b0 = some k ∧ k + 1 ≤ b) →
    let left := x.budget.map (fun b => b - 1 - (budgetOf b2 b1 b0).getD 0)
    ∃ t, exec (.admission p) s = .next t ∧
      t.slot p (number16 s1 s0) = some { x with budget := left } ∧
      t.family x.family = some { y with live := y.live + 1 } ∧ (∀ g, g ≠ x.family → t.family g = s.family g) ∧
      t.descriptor (Table.lowestFree s.descriptors 0) = some (newDescriptor p (exp = 1#8) payload y
        (some ⟨x.family, rightsOf r, budgetOf b2 b1 b0, .inTransit⟩)) ∧
      t.slotsInUse = s.slotsInUse ∧ t.storeUse = s.storeUse ∧
      t.port p = answeredPort (s.port p) rest (.verdict f.session f.seq .accepted (.budget left))

/-- A MESSAGE frame with a sending slot 0, an undefined expedite request or attach indicator, or, without an attach
section, a payload length that disagrees with its bytes is answered MALFORMED, and this counts as a protocol error. -/
def Obligations.MalformedMessageIsAProtocolError : Prop :=
  ∀ (p : PortId) (s : State) (f : IngressFrame) (rest : List IngressFrame) (s1 s0 exp ind l1 l0 : Byte)
    (payload : List Byte),
    Offered s p .message f rest (s1 :: s0 :: exp :: ind :: l1 :: l0 :: payload) → (s.port p).state = .active →
    (s.port p).protocolErrors + 1 ≠ (s.port p).protocolLimit →
    (number16 s1 s0 = 0 ∨ ¬ IsFlag exp ∨ ¬ IsFlag ind ∨ (ind = 0#8 ∧ number16 l1 l0 ≠ payload.length)) →
    exec (.admission p) s = .next
      (withPort s p
        { answeredPort (s.port p) rest (.verdict f.session f.seq .malformed .zero) with
          protocolErrors := (s.port p).protocolErrors + 1 })

/-! ### Requests of chapter 1 -/

/-- ISSUE GRANT of an OPEN or SEALED queue opens the lowest FREE family with the requested ceiling, tag and flag, and
defines the preferred or the lowest FREE slot, when the limits leave room. -/
def Obligations.IssueGrantOpensAFamily : Prop :=
  ∀ (p : PortId) (s : State) (f : IngressFrame) (rest : List IngressFrame) (q r b2 b1 b0 t1 t0 fl n1 n0 : Byte)
    (x : Queue),
    Requested s p f rest 0x10 [q, r, b2, b1, b0, t1, t0, fl, n1, n0] → Enabled s p →
    1 ≤ q.toNat → q.toNat ≤ 63 → r.toNat < 16 → r ≠ 0#8 → IsFlag b2 → budgetOf b2 b1 b0 ≠ some 0 → IsFlag fl →
    number16 n1 n0 ≤ 1023 → s.queue p q.toNat = some x → x.state ≠ .purging →
    (number16 n1 n0 ≠ 0 → s.slot p (number16 n1 n0) = none) →
    Bank.get s.slotsInUse p < (s.station p).grantLimit → s.storeUse < 4096 → Table.lowestFree s.families 1 ≤ 1023 →
    let fam := Table.lowestFree s.families 1
    let slot := if number16 n1 n0 = 0 then Table.lowestFree (Bank.get s.tables p) 1 else number16 n1 n0
    exec (.issueGrant p) s = .next
      (responded
        { withTable s p
            (Table.put (Bank.get s.tables p) slot ⟨.defined, fam, rightsOf r, budgetOf b2 b1 b0⟩) with
          families := Table.put s.families fam
            ⟨.opened, p, (s.station p).generation, q.toNat, rightsOf r, number16 t1 t0, fl = 1#8, 1⟩
          slotsInUse := Bank.set s.slotsInUse p (Bank.get s.slotsInUse p + 1)
          storeUse := s.storeUse + 1 }
        p f rest .done (bytes16 slot ++ bytes16 fam))

/-- DROP GRANT of a DEFINED slot of a family with more copies frees the slot and lowers the live count, which the
RESPONSE shows. -/
def Obligations.DropGrantLowersTheLiveCount : Prop :=
  ∀ (p : PortId) (s : State) (f : IngressFrame) (rest : List IngressFrame) (n1 n0 : Byte) (x : Slot) (y : Family),
    Requested s p f rest 0x11 [n1, n0] → Enabled s p → 1 ≤ number16 n1 n0 → number16 n1 n0 ≤ 1023 →
    s.slot p (number16 n1 n0) = some x → x.status = .defined → s.family x.family = some y → 1 < y.live →
    exec (.dropGrant p) s = .next
      (responded
        { withTable s p (Table.erase (Bank.get s.tables p) (number16 n1 n0)) with
          families := Table.put s.families x.family { y with live := y.live - 1 }
          slotsInUse := Bank.set s.slotsInUse p (Bank.get s.slotsInUse p - 1)
          storeUse := s.storeUse - 1 }
        p f rest .done (bytes16 x.family ++ bytes16 (y.live - 1)))

/-- The drop of a family's last copy closes it in the same event: the family is FREE, and no report is called for
without the report-on-close flag or where the issuer is not ENABLED under the family's generation; otherwise FAMILY CLOSED
is placed in RQ 0 of the issuer, with reason RELEASED or REVOKED, or counted as lost. The number of the report record is
the model's choice (log 6). -/
def Obligations.DropOfTheLastCopyClosesTheFamily : Prop :=
  ∀ (p : PortId) (s : State) (f : IngressFrame) (rest : List IngressFrame) (n1 n0 : Byte) (x : Slot) (y : Family),
    Requested s p f rest 0x11 [n1, n0] → Enabled s p → 1 ≤ number16 n1 n0 → number16 n1 n0 ≤ 1023 →
    s.slot p (number16 n1 n0) = some x → x.status = .defined → s.family x.family = some y → y.live = 1 →
    (y.reportOnClose = false →
      exec (.dropGrant p) s = .next
        (responded
          { withTable s p (Table.erase (Bank.get s.tables p) (number16 n1 n0)) with
            families := Table.erase s.families x.family
            slotsInUse := Bank.set s.slotsInUse p (Bank.get s.slotsInUse p - 1)
            storeUse := s.storeUse - 1 }
          p f rest .done (bytes16 x.family ++ [0, 0]))) ∧
    (∀ q : Queue, y.reportOnClose = true → Enabled s y.issuer → (s.station y.issuer).generation = y.issuerGeneration →
      s.queue y.issuer 0 = some q → s.freeReports ≠ 0 → q.heldMessages < 32 →
      exec (.dropGrant p) s = .next
        (responded
          { withTable s p (Table.erase (Bank.get s.tables p) (number16 n1 n0)) with
            families := Table.erase s.families x.family
            slotsInUse := Bank.set s.slotsInUse p (Bank.get s.slotsInUse p - 1)
            storeUse := s.storeUse - 1
            reports := Table.put s.reports (Table.lowestFree s.reports 0)
              ⟨y.issuer, .familyClosed x.family y.tag (if y.state = .opened then .released else .revoked),
                (s.station y.issuer).lostReports, false, none⟩
            freeReports := s.freeReports - 1
            stations := Bank.set s.stations y.issuer { s.station y.issuer with lostReports := 0 }
            queues := (withQueue s y.issuer 0
              { q with
                list := q.list ++ [⟨.report (Table.lowestFree s.reports 0), .normal⟩]
                heldMessages := q.heldMessages + 1 }).queues
            schedulers := joinedIfEmpty s y.issuer 0 q }
          p f rest .done (bytes16 x.family ++ [0, 0]))) ∧
    (y.reportOnClose = true → ¬ Current s y.issuer y.issuerGeneration →
      exec (.dropGrant p) s = .next
        (responded
          { slotVacated s p (number16 n1 n0) with families := Table.erase s.families x.family }
          p f rest .done (bytes16 x.family ++ [0, 0]))) ∧
    (∀ q : Queue, y.reportOnClose = true → Current s y.issuer y.issuerGeneration → s.queue y.issuer 0 = some q →
      s.freeReports = 0 ∨ 32 ≤ q.heldMessages →
      exec (.dropGrant p) s = .next
        (responded
          { withLostReport (slotVacated s p (number16 n1 n0)) y.issuer with
            families := Table.erase s.families x.family }
          p f rest .done (bytes16 x.family ++ [0, 0])))

/-- INSTALL GRANT of an OPEN family, within its ceiling, into an ENABLED station with room defines the chosen slot and
raises the live count. -/
def Obligations.InstallGrantDefinesASlot : Prop :=
  ∀ (p : PortId) (s : State) (f : IngressFrame) (rest : List IngressFrame) (t f1 f0 r b2 b1 b0 n1 n0 : Byte)
    (u : StationId) (y : Family),
    Requested s p f rest 0x12 [t, f1, f0, r, b2, b1, b0, n1, n0] → Manager s p → t.toNat = u.val →
    1 ≤ number16 f1 f0 → number16 f1 f0 ≤ 1023 → r.toNat < 16 → r ≠ 0#8 → IsFlag b2 → budgetOf b2 b1 b0 ≠ some 0 →
    number16 n1 n0 ≤ 1023 → Enabled s u → s.family (number16 f1 f0) = some y → y.state = .opened →
    (rightsOf r).within y.ceiling = true → (number16 n1 n0 ≠ 0 → s.slot u (number16 n1 n0) = none) →
    Bank.get s.slotsInUse u < (s.station u).grantLimit → s.storeUse < 4096 →
    let slot := if number16 n1 n0 = 0 then Table.lowestFree (Bank.get s.tables u) 1 else number16 n1 n0
    exec (.installGrant p) s = .next
      (responded
        { withTable s u
            (Table.put (Bank.get s.tables u) slot ⟨.defined, number16 f1 f0, rightsOf r, budgetOf b2 b1 b0⟩) with
          families := Table.put s.families (number16 f1 f0) { y with live := y.live + 1 }
          slotsInUse := Bank.set s.slotsInUse u (Bank.get s.slotsInUse u + 1)
          storeUse := s.storeUse + 1 }
        p f rest .done (bytes16 slot ++ bytes16 (y.live + 1)))

/-- READ GRANT and READ FAMILY answer DONE with the fields the rules list, and change nothing else. -/
def Obligations.ReadGrantAndReadFamilyShowTheRecord : Prop :=
  ∀ (p : PortId) (s : State) (f : IngressFrame) (rest : List IngressFrame) (t n1 n0 : Byte) (u : StationId),
    Enabled s p →
    (Requested s p f rest 0x13 [t, n1, n0] → t.toNat = u.val → (u = p ∨ Manager s p) → 1 ≤ number16 n1 n0 →
      number16 n1 n0 ≤ 1023 →
      exec (.readGrant p) s = .next
        (responded s p f rest .done
          ((match s.slot u (number16 n1 n0) with
            | none => [0]
            | some x =>
              (match x.status with
                | .reserved _ => 1
                | .defined => 2) ::
              (bytes16 x.family ++ [x.rights.byte] ++ budgetBytes x.budget ++
                (match s.family x.family with
                  | none => [0, 0, 0, 0, 0]
                  | some y =>
                    (if y.state = .opened then 1 else 2) :: (bytes16 y.tag ++ bytes8 y.issuer.val ++ bytes8 y.target)))) ++
            bytes16 (Bank.get s.slotsInUse u) ++ bytes16 (s.station u).grantLimit ++ bytes16 s.storeUse))) ∧
    (∀ y, Requested s p f rest 0x14 [n1, n0] → s.family (number16 n1 n0) = some y →
      (Manager s p ∨ (y.issuer = p ∧ y.issuerGeneration = (s.station p).generation)) → 1 ≤ number16 n1 n0 →
      number16 n1 n0 ≤ 1023 →
      exec (.readFamily p) s = .next
        (responded s p f rest .done
          ((if y.state = .opened then 1 else 2) ::
            (bytes8 y.issuer.val ++ bytes8 y.issuerGeneration ++ bytes8 y.target ++ [y.ceiling.byte] ++ bytes16 y.tag ++
              [if y.reportOnClose then 1 else 0] ++ bytes16 y.live))))

/-! ### Requests of chapters 2 and 4 -/

/-- OPEN QUEUE opens the named UNUSED queue, or the lowest UNUSED one of RQ 1 to RQ 63, empty and in no active list,
while the RQs in use are below the queue limit. -/
def Obligations.OpenQueueOpensAnEmptyQueue : Prop :=
  ∀ (p : PortId) (s : State) (f : IngressFrame) (rest : List IngressFrame) (q b d : Byte) (band : Band),
    Requested s p f rest 0x20 [q, b, d] → Enabled s p → q.toNat ≤ 63 → b.toNat = band.number → 1 ≤ d.toNat →
    (q.toNat ≠ 0 → s.queue p q.toNat = none) → Bank.get s.rqsInUse p < (s.station p).queueLimit →
    let n := if q.toNat = 0 then Table.lowestFree (Bank.get s.queues p) 1 else q.toNat
    exec (.openQueue p) s = .next
      (responded
        { withQueue s p n ⟨.opened, band, d.toNat, [], 0, 0, 0, false⟩ with
          rqsInUse := Bank.set s.rqsInUse p (Bank.get s.rqsInUse p + 1) }
        p f rest .done (bytes8 n ++ bytes8 (Bank.get s.rqsInUse p + 1) ++ bytes8 (s.station p).queueLimit))

/-- SEAL QUEUE, UNSEAL QUEUE and SET DEPTH change the state or the depth limit of the queue and nothing else of it. -/
def Obligations.SealUnsealAndSetDepth : Prop :=
  ∀ (p : PortId) (s : State) (f : IngressFrame) (rest : List IngressFrame) (q d : Byte) (x : Queue),
    Enabled s p → 1 ≤ q.toNat → q.toNat ≤ 63 → s.queue p q.toNat = some x →
    (Requested s p f rest 0x21 [q] → x.state = .opened →
      exec (.sealQueue p) s = .next
        (responded (withQueue s p q.toNat { x with state := .sealed }) p f rest .done (bytes8 x.heldMessages))) ∧
    (Requested s p f rest 0x22 [q] → x.state = .sealed →
      exec (.unsealQueue p) s = .next
        (responded (withQueue s p q.toNat { x with state := .opened }) p f rest .done (bytes8 x.heldMessages))) ∧
    (Requested s p f rest 0x23 [q, d] → x.state ≠ .purging → 1 ≤ d.toNat → x.heldMessages ≤ d.toNat →
      exec (.setDepth p) s = .next
        (responded (withQueue s p q.toNat { x with depth := d.toNat }) p f rest .done
          (bytes8 d.toNat ++ bytes8 x.heldMessages)))

/-- SET BAND of a queue in its active list moves it to the tail of the new band's list, an emptied band of 1 to 3 losing
its deficit and its open visit; of a queue in no list only the band changes, and the queue's present band leaves its place
as it is. SET QUANTA records the three quanta. -/
def Obligations.SetBandAndSetQuanta : Prop :=
  ∀ (p : PortId) (s : State) (f : IngressFrame) (rest : List IngressFrame) (q b c : Byte) (n : Band) (x : Queue),
    Enabled s p →
    (Requested s p f rest 0x28 [q, b] → 1 ≤ q.toNat → q.toNat ≤ 63 → b.toNat = x.band.number →
      s.queue p q.toNat = some x → x.state ≠ .purging →
      exec (.setBand p) s = .next
        (responded (withQueue s p q.toNat x) p f rest .done
          (bytes8 x.band.number ++ bytes8 x.band.number ++
            [if q.toNat ∈ (s.scheduler p).active.get x.band then 1 else 0]))) ∧
    (Requested s p f rest 0x28 [q, b] → 1 ≤ q.toNat → q.toNat ≤ 63 → b.toNat = n.number →
      s.queue p q.toNat = some x → x.state ≠ .purging → n ≠ x.band →
      (q.toNat ∉ (s.scheduler p).active.get x.band → q.toNat ∉ (s.scheduler p).active.get n →
        exec (.setBand p) s = .next
          (responded (withQueue s p q.toNat { x with band := n }) p f rest .done
            (bytes8 x.band.number ++ bytes8 n.number ++ [0]))) ∧
      (q.toNat ∈ (s.scheduler p).active.get x.band →
        let left := ((s.scheduler p).active.get x.band).filter (fun r => r ≠ q.toNat)
        ∃ sch, exec (.setBand p) s = .next
            (responded (withScheduler (withQueue s p q.toNat { x with band := n }) p sch) p f rest .done
              (bytes8 x.band.number ++ bytes8 n.number ++ [1])) ∧
          sch.active.get x.band = left ∧ sch.active.get n = (s.scheduler p).active.get n ++ [q.toNat] ∧
          (∀ m, m ≠ x.band → m ≠ n → sch.active.get m = (s.scheduler p).active.get m) ∧
          sch.pointer = (s.scheduler p).pointer ∧
          (∀ d : DrrBand, sch.deficit.get d =
            if d.band = x.band ∧ left = [] then 0 else (s.scheduler p).deficit.get d) ∧
          (sch.visitOpen =
            ((s.scheduler p).visitOpen && !decide ((s.scheduler p).pointer.band = x.band ∧ left = []))))) ∧
    (Requested s p f rest 0x29 [q, b, c] → 1 ≤ q.toNat → q.toNat ≤ 32 → 1 ≤ b.toNat → b.toNat ≤ 32 → 1 ≤ c.toNat →
      c.toNat ≤ 32 →
      exec (.setQuanta p) s = .next
        (responded (withStation s p { s.station p with quanta := ⟨q.toNat, b.toNat, c.toNat⟩ }) p f rest .done
          (bytes8 q.toNat ++ bytes8 b.toNat ++ bytes8 c.toNat ++
            (bytes8 (s.scheduler p).deficit.b1 ++ bytes8 (s.scheduler p).deficit.b2 ++ bytes8 (s.scheduler p).deficit.b3) ++
            bytes8 (s.scheduler p).pointer.number)))

/-- READ QUEUE and READ POOL answer DONE with the fields the rules list, and change nothing else. -/
def Obligations.ReadQueueAndReadPoolShowTheCounts : Prop :=
  ∀ (p : PortId) (s : State) (f : IngressFrame) (rest : List IngressFrame) (t q : Byte) (u : StationId),
    Enabled s p →
    (Requested s p f rest 0x24 [t, q] → t.toNat = u.val → (u = p ∨ Manager s p) → q.toNat ≤ 63 →
      exec (.readQueue p) s = .next
        (responded s p f rest .done
          ((match s.queue u q.toNat with
            | none => [0]
            | some x =>
              [match x.state with
                | .opened => 1
                | .sealed => 2
                | .purging => 3] ++
              bytes8 x.band.number ++ bytes8 x.depth ++
              bytes8 (x.list.countP (fun e => e.segment = .returned)) ++
              bytes8 (x.list.countP (fun e => e.segment = .expedited)) ++
              bytes8 (x.list.countP (fun e => e.segment = .normal)) ++
              bytes8 x.outstanding ++ bytes8 x.heldMessages ++ bytes16 x.heldCells ++
              [if q.toNat ∈ (s.scheduler u).active.get x.band then 1 else 0] ++
              (if x.state = .purging then [if x.passComplete then 1 else 0] else [])) ++
            bytes8 (Bank.get s.rqsInUse u) ++ bytes8 (s.station u).queueLimit ++ bytes16 (Bank.get s.heldCells u) ++
            bytes16 (s.station u).cellQuota))) ∧
    (Requested s p f rest 0x25 [] →
      exec (.readPool p) s = .next
        (responded s p f rest .done
          (bytes16 s.freeDescriptors ++ bytes16 s.freeCells ++ bytes8 s.freeReports ++
            bytes16 (s.descriptors.countP (fun e => e.2.seq = none)) ++
            bytes8 (s.descriptors.countP (fun e => e.2.seq ≠ none)) ++
            bytes8 (s.reports.countP (fun e => e.2.seq = none)) ++
            bytes8 (s.reports.countP (fun e => e.2.seq ≠ none)) ++
            bytes16 (Bank.get s.heldCells p) ++ bytes16 (s.station p).cellQuota)))

/-! ### Requests of chapters 5, 8 and 9 -/

namespace Sys2Proof.Claims

/-- A flag as one byte (section 10.3). -/
def flagCode (b : Bool) : List Byte := if b then [1] else [0]

/-- A station state as one byte (R201). -/
def stationCode : StationState → List Byte
  | .absent => [0]
  | .enabled => [1]
  | .evicting => [2]

/-- A port state as one byte (R201). -/
def portCode : PortState → List Byte
  | .down => [0]
  | .idle => [1]
  | .active => [2]
  | .fenced => [3]

/-- A fence cause as one byte (R201). -/
def causeCode : Option FenceCause → List Byte
  | none => [0]
  | some .retries => [1]
  | some .protocol => [2]

/-- The MANAGE holders counted (R186). -/
def holders (s : State) : Nat := (List.finRange 8).countP (fun t => decide (Manager s t))

/-- The bytes of a sweep's kind (R201) and of its subject (section 10.7). -/
def subjectBytes : SweepSubject → List Byte
  | .revoke f => [1, 0] ++ bytes16 f
  | .purge t q => [2] ++ bytes8 t.val ++ bytes16 q
  | .evict t => [3] ++ bytes8 t.val ++ [0, 0]

/-- A cursor: phase, station, and slot or queue (R201). -/
def cursorBytes : Cursor → List Byte × List Byte
  | .slotPass t n => ([1], bytes8 t.val ++ bytes16 n)
  | .queuePass t q => ([2], bytes8 t.val ++ bytes16 q)

/-- Scheduler `new` is `old` after queue q has left band b's active list (R84, R85). -/
def LeavesBand (old new : Scheduler) (b : Band) (q : Nat) : Prop :=
  new.active.get b = (old.active.get b).filter (fun r => r ≠ q) ∧
    (∀ m, m ≠ b → new.active.get m = old.active.get m) ∧ new.pointer = old.pointer ∧
    (∀ d : DrrBand, new.deficit.get d = if d.band = b ∧ new.active.get b = [] then 0 else old.deficit.get d) ∧
    new.visitOpen = (old.visitOpen && !decide (old.pointer.band = b ∧ new.active.get b = []))

/-- Every OPEN family that satisfies a test becomes REVOKING (R14). -/
def revokedWhere (s : State) (test : Family → Bool) : Table Family :=
  s.families.map (fun e => (e.1, if e.2.state = .opened ∧ test e.2 = true then { e.2 with state := .revoking } else e.2))

/-- How many families `revokedWhere` changes. -/
def openWhere (s : State) (test : Family → Bool) : Nat :=
  s.families.countP (fun e => decide (e.2.state = .opened ∧ test e.2 = true))

end Sys2Proof.Claims

/-- SET DELIVERY TIMING records the ack timeout and retry limit, a running timer kept; SET PORT LIMIT records the limit
and sets the protocol error count, and on request the CRC error count, to 0; RELEASE PORT makes a FENCED port IDLE with
protocol error count 0. The port may be the requester's own. -/
def Obligations.PortSettingsAndRelease : Prop :=
  ∀ (p : PortId) (s : State) (f : IngressFrame) (rest : List IngressFrame) (n a b c : Byte) (u : PortId),
    Manager s p → n.toNat = u.val →
    (Requested s p f rest 0x30 [n, a, b] → 1 ≤ a.toNat → b.toNat ≤ 7 →
      exec (.setDeliveryTiming p) s = .next
        (responded
          (withPort s u
            { s.port u with window := { (s.port u).window with ackTimeout := a.toNat, retryLimit := b.toNat } })
          p f rest .done
          (bytes8 (s.port u).window.ackTimeout ++ bytes8 a.toNat ++ bytes8 (s.port u).window.retryLimit ++
            bytes8 b.toNat))) ∧
    (Requested s p f rest 0x42 [n, a, c] → 1 ≤ a.toNat → IsFlag c →
      exec (.setPortLimit p) s = .next
        (responded
          (withPort s u
            { s.port u with
              protocolLimit := a.toNat
              protocolErrors := 0
              crcErrors := if c = 1#8 then 0 else (s.port u).crcErrors })
          p f rest .done
          (bytes8 (s.port u).protocolLimit ++ bytes8 (s.port u).protocolErrors ++ bytes16 (s.port u).crcErrors))) ∧
    (Requested s p f rest 0x40 [n] → (s.port u).state = .fenced →
      exec (.releasePort p) s = .next
        (responded (withPort s u { s.port u with state := .idle, protocolErrors := 0 }) p f rest .done
          (causeCode (s.port u).fenceCause)))

/-- ENABLE STATION makes an ABSENT station ENABLED under a raised generation with the requested limits and MANAGE choice,
default quanta, RQ 0 OPEN and its scheduler as R97 says; SET LIMITS sets all three limits of an ENABLED station when none
is below its use, with a result that holds old and new field by field, which is the model's choice (log 10); SET MANAGE
sets the flag of an ENABLED station, unless that would leave no MANAGE holder. -/
def Obligations.EnableStationSetLimitsAndSetManage : Prop :=
  ∀ (p : PortId) (s : State) (f : IngressFrame) (rest : List IngressFrame) (n g1 g0 q c1 c0 m : Byte) (u : StationId),
    Manager s p → n.toNat = u.val →
    (Requested s p f rest 0x48 [n, g1, g0, q, c1, c0, m] → number16 g1 g0 ≤ 1023 → q.toNat ≤ 63 →
      number16 c1 c0 ≤ 3072 → IsFlag m → (s.station u).state = .absent →
      exec (.enableStation p) s = .next
        (responded
          { withStation s u
              ⟨.enabled, if (s.station u).generation < 255 then (s.station u).generation + 1 else 1, m = 1#8,
                number16 g1 g0, q.toNat, number16 c1 c0, (s.station u).lostReports, ⟨8, 4, 2⟩⟩ with
            queues := (withQueue s u 0 ⟨.opened, .b0, 32, [], 0, 0, 0, false⟩).queues
            schedulers := Bank.set s.schedulers u ⟨⟨[], [], [], []⟩, ⟨0, 0, 0⟩, .b1, false⟩ }
          p f rest .done
          (bytes8 (if (s.station u).generation < 255 then (s.station u).generation + 1 else 1) ++
            bytes8 (if m = 1#8 then holders s + 1 else holders s)))) ∧
    (Requested s p f rest 0x49 [n, g1, g0, q, c1, c0] → number16 g1 g0 ≤ 1023 → q.toNat ≤ 63 →
      number16 c1 c0 ≤ 3072 → Enabled s u → Bank.get s.slotsInUse u ≤ number16 g1 g0 →
      Bank.get s.rqsInUse u ≤ q.toNat → Bank.get s.heldCells u ≤ number16 c1 c0 →
      exec (.setLimits p) s = .next
        (responded
          (withStation s u
            { s.station u with grantLimit := number16 g1 g0, queueLimit := q.toNat, cellQuota := number16 c1 c0 })
          p f rest .done
          (bytes16 (s.station u).grantLimit ++ bytes16 (number16 g1 g0) ++ bytes8 (s.station u).queueLimit ++
            bytes8 q.toNat ++ bytes16 (s.station u).cellQuota ++ bytes16 (number16 c1 c0) ++
            bytes16 (Bank.get s.slotsInUse u) ++ bytes8 (Bank.get s.rqsInUse u) ++ bytes16 (Bank.get s.heldCells u)))) ∧
    (Requested s p f rest 0x4A [n, m] → IsFlag m → Enabled s u →
      (m = 0#8 → Manager s u → holders s = 1 → exec (.setManage p) s = .next (responded s p f rest .lastManager [])) ∧
      (m = 1#8 ∨ ¬ Manager s u ∨ holders s ≠ 1 →
        exec (.setManage p) s = .next
          (responded (withStation s u { s.station u with manage := m = 1#8 }) p f rest .done
            (flagCode (s.station u).manage ++
              bytes8 (holders (withStation s u { s.station u with manage := m = 1#8 }))))))

/-- CLEAR TABLES from an ACTIVE port returns every store, scheduler and the Sweep Unit to the power-on contents but for
the last ticket, keeps the requester ENABLED with MANAGE and its limits under a raised generation, makes every other
station ABSENT, ends every session and releases every FENCED port; the DONE stays in the requester's answer list. -/
def Obligations.ClearTablesKeepsTheRequester : Prop :=
  ∀ (p : PortId) (s : State) (f : IngressFrame) (rest : List IngressFrame),
    Manager s p → Requested s p f rest 0x4F [] → (s.port p).state = .active →
    ∃ t, exec (.clearTables p) s = .next t ∧
      (∀ u, Bank.get t.tables u = []) ∧ (∀ u, Bank.get t.slotsInUse u = 0) ∧ t.storeUse = 0 ∧ t.families = [] ∧
      (∀ u, u ≠ p → Bank.get t.queues u = []) ∧
      Bank.get t.queues p = [(0, ⟨.opened, .b0, 32, [], 0, 0, 0, false⟩)] ∧
      (∀ u, Bank.get t.rqsInUse u = 0) ∧ (∀ u, Bank.get t.heldCells u = 0) ∧ t.descriptors = [] ∧ t.reports = [] ∧
      t.freeDescriptors = 1024 ∧ t.freeCells = 3072 ∧ t.freeReports = 64 ∧
      (∀ u, t.scheduler u = ⟨⟨[], [], [], []⟩, ⟨0, 0, 0⟩, .b1, false⟩) ∧
      t.sweep = none ∧ t.lastCompleted = none ∧ t.lastTicket = s.lastTicket ∧ t.pending = s.pending ∧
      t.station p =
        { s.station p with
          state := .enabled, manage := true, lostReports := 0
          generation := if (s.station p).generation < 255 then (s.station p).generation + 1 else 1 } ∧
      (∀ u, u ≠ p → t.station u = ⟨.absent, (s.station u).generation, false, 0, 0, 0, 0, ⟨8, 4, 2⟩⟩) ∧
      t.port p =
        { endedPort (s.port p) with
          state := .idle, linkReply := none
          answers := (s.port p).answers ++ [.response f.session f.seq .done []] } ∧
      ∀ u, u ≠ p →
        t.port u =
          match (s.port u).state with
          | .active => { endedPort (s.port u) with state := .idle, linkReply := none }
          | .fenced => { s.port u with state := .idle, protocolErrors := 0 }
          | .down | .idle => s.port u

/-- READ STATION shows the station's record, uses and scheduler; READ DEVICE, from any station, shows the part and its
capacities, the requester, the eight stations and the counts. Neither changes anything else. -/
def Obligations.ReadStationAndReadDeviceShowTheStations : Prop :=
  ∀ (p : PortId) (s : State) (f : IngressFrame) (rest : List IngressFrame) (n : Byte) (u : StationId),
    (Requested s p f rest 0x4B [n] → n.toNat = u.val → Enabled s p → (u = p ∨ Manager s p) →
      exec (.readStation p) s = .next
        (responded s p f rest .done
          (stationCode (s.station u).state ++
            bytes8 (s.station u).generation ++ flagCode (s.station u).manage ++
            bytes16 (s.station u).grantLimit ++ bytes16 (Bank.get s.slotsInUse u) ++
            bytes8 (s.station u).queueLimit ++ bytes8 (Bank.get s.rqsInUse u) ++
            bytes16 (s.station u).cellQuota ++ bytes16 (Bank.get s.heldCells u) ++ bytes8 (s.station u).lostReports ++
            (bytes8 (s.station u).quanta.b1 ++ bytes8 (s.station u).quanta.b2 ++ bytes8 (s.station u).quanta.b3) ++
            (bytes8 (s.scheduler u).deficit.b1 ++ bytes8 (s.scheduler u).deficit.b2 ++
              bytes8 (s.scheduler u).deficit.b3 ++ bytes8 (s.scheduler u).pointer.number ++
              flagCode (s.scheduler u).visitOpen ++ bytes8 (s.scheduler u).active.b0.length ++
              bytes8 (s.scheduler u).active.b1.length ++ bytes8 (s.scheduler u).active.b2.length ++
              bytes8 (s.scheduler u).active.b3.length)))) ∧
    (Requested s p f rest 0x4C [] →
      exec (.readDevice p) s = .next
        (responded s p f rest .done
          ([0x5C, 0x08, 0x01] ++
            (bytes8 8 ++ bytes16 1023 ++ bytes16 4096 ++ bytes16 1023 ++ bytes8 64 ++ bytes16 1024 ++ bytes16 3072 ++
              bytes8 64) ++
            bytes8 p.val ++
            stationCode (s.station p).state ++
            bytes8 (s.station p).generation ++
            (List.finRange 8).flatMap (fun v => stationCode (s.station v).state ++ flagCode (s.station v).manage) ++
            bytes8 (holders s) ++ bytes16 s.storeUse ++ bytes16 (1023 - s.families.length) ++
            flagCode (decide (s.sweep ≠ none)))))

/-- READ PORT shows the port's state, its session items while it has a session, its counts and its window; READ SWEEP
shows the sweep in progress, the last ticket and the last completed record. Neither changes anything else. -/
def Obligations.ReadPortAndReadSweepShowTheirUnits : Prop :=
  ∀ (p : PortId) (s : State) (f : IngressFrame) (rest : List IngressFrame) (n : Byte) (u : PortId), Enabled s p →
    (Requested s p f rest 0x41 [n] → n.toNat = u.val → (u = p ∨ Manager s p) →
      exec (.readPort p) s = .next
        (responded s p f rest .done
          (portCode (s.port u).state ++
            (match (s.port u).session with
              | none => []
              | some x =>
                bytes8 x.number ++ [x.arrival] ++ bytes8 (if u = p then rest.length else (s.port u).ingress.length) ++
                  bytes8 (s.port u).history.length ++ bytes8 (s.port u).answers.length) ++
            bytes16 (s.port u).crcErrors ++ bytes8 (s.port u).protocolErrors ++ bytes8 (s.port u).protocolLimit ++
            causeCode (s.port u).fenceCause ++
            (bytes8 (s.port u).window.outstanding.length ++ [(s.port u).window.nextSeq] ++
              bytes8 (s.port u).window.credit ++
              (match (s.port u).window.timer with
                | none => [0]
                | some k => 1 :: bytes8 k) ++
              bytes8 (s.port u).window.retryCount ++ bytes8 (s.port u).window.ackTimeout ++
              bytes8 (s.port u).window.retryLimit ++
              (match (s.port u).window.outstanding with
                | [] => []
                | e :: _ => (s.entrySeq e).toList))))) ∧
    (Requested s p f rest 0x3B [] →
      exec (.readSweep p) s = .next
        (responded s p f rest .done
          ((match s.sweep with
              | none => [0]
              | some x =>
                [1] ++ subjectBytes x.subject ++ bytes8 x.ticket ++ (cursorBytes x.cursor).1 ++
                  (cursorBytes x.cursor).2 ++ bytes8 x.requester.val ++ bytes8 x.requesterGeneration ++
                  bytes16 x.slotsFreed ++ bytes16 x.messagesFreed) ++
            bytes8 s.lastTicket ++
            (match s.lastCompleted with
              | none => [0]
              | some x =>
                [1] ++ bytes8 x.ticket ++ subjectBytes x.subject ++ bytes16 x.slotsFreed ++
                  bytes16 x.messagesFreed))))

/-! ### The checks of a CONTROL frame -/

namespace Sys2Proof.Claims

/-- The request catalogue (section 10.5): code, parameter length, and the command that takes the request. -/
def requests : List (Nat × Nat × (PortId → Instr)) :=
  [(0x10, 10, .issueGrant), (0x11, 2, .dropGrant), (0x12, 9, .installGrant), (0x13, 3, .readGrant),
   (0x14, 2, .readFamily), (0x20, 3, .openQueue), (0x21, 1, .sealQueue), (0x22, 1, .unsealQueue), (0x23, 2, .setDepth),
   (0x24, 2, .readQueue), (0x25, 0, .readPool), (0x28, 2, .setBand), (0x29, 3, .setQuanta)] ++
  [(0x30, 3, .setDeliveryTiming), (0x38, 2, .revokeFamily), (0x39, 2, .purgeQueue), (0x3A, 1, .evictStation),
   (0x3B, 0, .readSweep), (0x40, 1, .releasePort), (0x41, 1, .readPort), (0x42, 3, .setPortLimit),
   (0x48, 7, .enableStation), (0x49, 6, .setLimits), (0x4A, 2, .setManage), (0x4B, 1, .readStation),
   (0x4C, 0, .readDevice), (0x4F, 0, .clearTables)]

/-- The codes of the requests of class MANAGE and MANAGE, not self (R182). -/
def manageCodes : List Nat := [0x12, 0x30, 0x3A, 0x40, 0x42, 0x48, 0x49, 0x4A, 0x4F]

/-- Every flag, choice, rights and budget-presence byte among the parameters holds a defined encoding (R199). -/
def EncodingsDefined (code : Nat) (params : List Byte) : Prop :=
  match code, params with
  | 0x10, [_, r, b2, _, _, _, _, fl, _, _] => r.toNat < 16 ∧ IsFlag b2 ∧ IsFlag fl
  | 0x12, [_, _, _, r, b2, _, _, _, _] => r.toNat < 16 ∧ IsFlag b2
  | 0x42, [_, _, c] => IsFlag c
  | 0x48, [_, _, _, _, _, _, m] => IsFlag m
  | 0x4A, [_, m] => IsFlag m
  | _, _ => True

/-- The port after a MALFORMED answer, below the protocol error limit (R169, R181). -/
def malformedPort (x : PortLink) (f : IngressFrame) (rest : List IngressFrame) : PortLink :=
  { answeredPort x rest (.response f.session f.seq .malformed []) with protocolErrors := x.protocolErrors + 1 }

end Sys2Proof.Claims

/-- Checks 1 to 3 of R181, for every request: a parameter length that disagrees with the bytes or with the catalogue, or
an undefined encoding, is answered MALFORMED and counted; a code outside the catalogue is answered UNKNOWN_REQUEST; a
requester that is not ENABLED is answered NOT_ENABLED, but for READ DEVICE. -/
def Obligations.MalformedUnknownAndNotEnabledRequests : Prop :=
  ∀ (p : PortId) (s : State) (f : IngressFrame) (rest : List IngressFrame) (code len : Byte) (params : List Byte),
    Offered s p .control f rest (code :: len :: params) → (s.port p).state = .active →
    (s.port p).protocolErrors + 1 ≠ (s.port p).protocolLimit →
    ((∀ e ∈ requests, e.1 ≠ code.toNat) →
      (len.toNat = params.length →
        exec (.unknownRequest p) s = .next (responded s p f rest .unknownRequest [])) ∧
      (len.toNat ≠ params.length →
        exec (.unknownRequest p) s = .next (withPort s p (malformedPort (s.port p) f rest)))) ∧
    ∀ e ∈ requests, e.1 = code.toNat →
      (len.toNat ≠ params.length ∨ params.length ≠ e.2.1 ∨ ¬ EncodingsDefined e.1 params →
        exec (e.2.2 p) s = .next (withPort s p (malformedPort (s.port p) f rest))) ∧
      (len.toNat = params.length → params.length = e.2.1 → EncodingsDefined e.1 params → ¬ Enabled s p → e.1 ≠ 0x4C →
        exec (e.2.2 p) s = .next (responded s p f rest .notEnabled []))

/-- Checks 4 and 5 of R181: without MANAGE every request of class MANAGE is answered NOT_PERMITTED, and so is a request
that names another station, or a station above 7, in the class of SELF with MANAGE for others; with MANAGE a station above
7 is answered BAD_VALUE, and the requester's own number is NOT_PERMITTED for EVICT STATION. READ FAMILY and REVOKE FAMILY
are NOT_PERMITTED without MANAGE unless the requester issued the family under its present generation; with MANAGE a number
that no family has is answered BAD_VALUE. -/
def Obligations.PermissionComesBeforeRange : Prop :=
  ∀ (p : PortId) (s : State) (f : IngressFrame) (rest : List IngressFrame) (code n : Byte) (params : List Byte),
    Enabled s p →
    (∀ e ∈ requests, e.1 = code.toNat → e.1 ∈ manageCodes → params.length = e.2.1 → EncodingsDefined e.1 params →
      Requested s p f rest code params → ¬ Manager s p →
      exec (e.2.2 p) s = .next (responded s p f rest .notPermitted [])) ∧
    (∀ e ∈ requests, e.1 = code.toNat → e.1 ∈ [0x13, 0x24, 0x39, 0x41, 0x4B] → (n :: params).length = e.2.1 →
      Requested s p f rest code (n :: params) →
      (n.toNat ≠ p.val → ¬ Manager s p → exec (e.2.2 p) s = .next (responded s p f rest .notPermitted [])) ∧
      (7 < n.toNat → Manager s p → exec (e.2.2 p) s = .next (responded s p f rest .badValue []))) ∧
    (∀ e ∈ requests, e.1 = code.toNat → e.1 ∈ manageCodes → e.1 ≠ 0x4F → (n :: params).length = e.2.1 →
      EncodingsDefined e.1 (n :: params) → Requested s p f rest code (n :: params) → 7 < n.toNat → Manager s p →
      exec (e.2.2 p) s = .next (responded s p f rest .badValue [])) ∧
    (Requested s p f rest 0x3A [n] → n.toNat = p.val →
      exec (.evictStation p) s = .next (responded s p f rest .notPermitted [])) ∧
    (∀ n1 n0 : Byte, ∀ e ∈ requests, e.1 = code.toNat → e.1 ∈ [0x14, 0x38] → Requested s p f rest code [n1, n0] →
      (¬ Manager s p →
        (∀ y, s.family (number16 n1 n0) = some y →
          ¬ (y.issuer = p ∧ y.issuerGeneration = (s.station p).generation)) →
        exec (e.2.2 p) s = .next (responded s p f rest .notPermitted [])) ∧
      (Manager s p → number16 n1 n0 = 0 ∨ 1023 < number16 n1 n0 →
        exec (e.2.2 p) s = .next (responded s p f rest .badValue [])))

/-- A request answered with any status but DONE, ACCEPTED and MALFORMED carries no result and changes nothing but its
port's ingress queue, answers and history. -/
def Obligations.RefusedRequestsChangeNothing : Prop :=
  ∀ (p : PortId) (s t : State) (f : IngressFrame) (rest : List IngressFrame) (code len : Byte) (params : List Byte)
    (status : Status) (result : List Byte),
    Offered s p .control f rest (code :: len :: params) →
    ∀ e ∈ requests, e.1 = code.toNat → exec (e.2.2 p) s = .next t →
      (t.port p).answers = (s.port p).answers ++ [.response f.session f.seq status result] →
      status ≠ .done → status ≠ .accepted → status ≠ .malformed →
      result = [] ∧ t = responded s p f rest status []

/-! ### Sweep requests -/

/-- REVOKE FAMILY of an OPEN family by MANAGE or by its issuer, while no sweep is in progress, makes the family REVOKING
and starts a REVOKE sweep at slot (0, 1) under the next ticket. -/
def Obligations.RevokeFamilyStartsASweep : Prop :=
  ∀ (p : PortId) (s : State) (f : IngressFrame) (rest : List IngressFrame) (n1 n0 : Byte) (y : Family),
    Requested s p f rest 0x38 [n1, n0] → Enabled s p →
    (Manager s p ∨ (y.issuer = p ∧ y.issuerGeneration = (s.station p).generation)) → 1 ≤ number16 n1 n0 →
    number16 n1 n0 ≤ 1023 → s.family (number16 n1 n0) = some y → y.state = .opened → s.sweep = none →
    let ticket := if s.lastTicket < 255 then s.lastTicket + 1 else 1
    exec (.revokeFamily p) s = .next
      (responded
        { s with
          families := Table.put s.families (number16 n1 n0) { y with state := .revoking }
          lastTicket := ticket
          sweep := some
            ⟨.revoke (number16 n1 n0), .slotPass 0 1, ticket, p, (s.station p).generation, 0, 0⟩ }
        p f rest .accepted (bytes8 ticket ++ [0, 1] ++ [0] ++ bytes16 y.live))

/-- PURGE QUEUE of an OPEN or SEALED queue, while no sweep is in progress, makes it PURGING with its mark clear, takes it
out of its active list, makes every OPEN family that targets it REVOKING, and starts a PURGE sweep. -/
def Obligations.PurgeQueueStartsASweep : Prop :=
  ∀ (p : PortId) (s : State) (f : IngressFrame) (rest : List IngressFrame) (n q : Byte) (u : StationId) (x : Queue),
    Requested s p f rest 0x39 [n, q] → n.toNat = u.val → Enabled s p → (u = p ∨ Manager s p) → 1 ≤ q.toNat →
    q.toNat ≤ 63 → s.queue u q.toNat = some x → x.state ≠ .purging → s.sweep = none →
    let ticket := if s.lastTicket < 255 then s.lastTicket + 1 else 1
    let targets := fun y : Family => decide (y.issuer = u ∧ y.target = q.toNat)
    ∃ sch, LeavesBand (s.scheduler u) sch x.band q.toNat ∧
      exec (.purgeQueue p) s = .next
        (responded
          { withScheduler (withQueue s u q.toNat { x with state := .purging, passComplete := false }) u sch with
            families := revokedWhere s targets
            lastTicket := ticket
            sweep := some ⟨.purge u q.toNat, .slotPass 0 1, ticket, p, (s.station p).generation, 0, 0⟩ }
          p f rest .accepted (bytes8 ticket ++ bytes16 (openWhere s targets) ++ [1] ++ bytes8 x.heldMessages))

/-- EVICT STATION of another ENABLED station, while no sweep is in progress, makes it EVICTING, its OPEN families
REVOKING and its queues PURGING out of every active list, ends its session, and starts an EVICT sweep whose freed counts
begin with the deliveries that the session end freed. -/
def Obligations.EvictStationStartsASweep : Prop :=
  ∀ (p : PortId) (s : State) (f : IngressFrame) (rest : List IngressFrame) (n : Byte) (u : StationId),
    Requested s p f rest 0x3A [n] → n.toNat = u.val → Manager s p → u ≠ p → Enabled s u → s.sweep = none →
    let ticket := if s.lastTicket < 255 then s.lastTicket + 1 else 1
    let issued := fun y : Family => decide (y.issuer = u)
    let endsSession := decide ((s.port u).state = .active)
    let freed := if endsSession then (s.port u).window.outstanding else []
    ∃ t, exec (.evictStation p) s = .next t ∧
      t.station u = { s.station u with state := .evicting } ∧
      (∀ q x, s.queue u q = some x → ∃ y, t.queue u q = some y ∧ y.state = .purging ∧ y.passComplete = false ∧
        y.list = x.list) ∧
      t.scheduler u = ⟨⟨[], [], [], []⟩, ⟨0, 0, 0⟩, (s.scheduler u).pointer, false⟩ ∧
      t.lastTicket = ticket ∧
      t.sweep = some
        ⟨.evict u, .slotPass 0 1, ticket, p, (s.station p).generation, freed.countP s.holdsReserved, freed.length⟩ ∧
      t.port u =
        (if endsSession then { endedPort (s.port u) with state := .idle, linkReply := none } else s.port u) ∧
      t.port p = answeredPort (s.port p) rest
        (.response f.session f.seq .accepted
          (bytes8 ticket ++ bytes16 (openWhere s issued) ++
            bytes8 ((Bank.get s.queues u).countP (fun e => e.2.state ≠ .purging)))) ∧
      (freed = [] →
        t.families = revokedWhere s issued ∧ t.tables = s.tables ∧ t.slotsInUse = s.slotsInUse ∧
        t.storeUse = s.storeUse ∧ t.descriptors = s.descriptors ∧ t.reports = s.reports ∧
        (∀ v, v ≠ u → t.station v = s.station v ∧ t.scheduler v = s.scheduler v ∧ ∀ q, t.queue v q = s.queue v q))

/-! ### Selections and first transmissions -/

namespace Sys2Proof.Claims

/-- The conditions of R86 on the station, its port and its window. -/
abbrev SelectionReady (s : State) (p : PortId) : Prop :=
  Enabled s p ∧ (s.port p).state = .active ∧ (s.port p).window.outstanding.length < 4 ∧ 1 ≤ (s.port p).window.credit

/-- The queue (p, q) after its head entry has been selected; r is the rest of its list (R40, R86). -/
def selectedQueue (x : Queue) (r : List ListEntry) : Queue := { x with list := r, outstanding := x.outstanding + 1 }

/-- The window after it has taken entry e and built these new frames (R86, R102, R103, R107, R108). -/
def selectedWindow (w : Window) (e : EntryRef) (frames : List DeliveryFrame) : Window :=
  { w with
    outstanding := w.outstanding ++ [e]
    nextSeq := w.nextSeq + 1
    credit := w.credit - 1
    timer := if w.outstanding = [] then some w.ackTimeout else w.timer
    newDeliveries := w.newDeliveries ++ frames }

/-- The present session number; 0 where there is none. -/
def sessionOf (x : PortLink) : Nat := (x.session.map Session.number).getD 0

/-- The DELIVERY of a message, with this grant section (R106). -/
def messageFrame (session : Nat) (n : SeqNum) (m : Descriptor) (g : Option GrantSection) : DeliveryFrame :=
  { session := session, seq := n, queue := m.queue, origin := m.origin.val, tag := m.tag, expedite := m.expedite
    repeated := m.repeated, grant := g, content := m.payload }

/-- The DELIVERY of a report (R106). -/
def reportFrame (session : Nat) (n : SeqNum) (m : ReportRecord) : DeliveryFrame :=
  { session := session, seq := n, queue := 0, origin := 15, tag := 0, expedite := false, repeated := m.repeated
    grant := none, content := m.content.bytes m.lostCarried }

/-- The scheduler after band 0 has served queue q, `turn` behind it in its list (R86, R87). -/
def strictServed (sch : Scheduler) (q : Nat) (turn : List Nat) (stays : Bool) : Scheduler :=
  { sch with active := { sch.active with b0 := if stays then turn ++ [q] else turn } }

end Sys2Proof.Claims

/-- With band 0 active, a selection takes the head entry of the first queue of band 0: the entry becomes outstanding under
the next delivery sequence, one credit is spent, the queue goes to the tail of band 0's list or leaves it, bands 1 to 3
are not touched, and the DELIVERY frame is built. Said for a message without a grant and for a report. -/
def Obligations.SelectionServesBandZeroFirst : Prop :=
  ∀ (p : PortId) (s : State) (q : Nat) (turn : List Nat) (x : Queue) (e : ListEntry) (r : List ListEntry),
    SelectionReady s p → (s.scheduler p).active.b0 = q :: turn → s.queue p q = some x → x.list = e :: r →
    let w := (s.port p).window
    (∀ d m, e.ref = .message d → s.descriptor d = some m → m.grant = none →
      exec (.selection p) s = .next
        { withPort
            (withScheduler (withQueue s p q (selectedQueue x r)) p
              (strictServed (s.scheduler p) q turn (decide (r ≠ []))))
            p
            { s.port p with
              window := selectedWindow w e.ref [messageFrame (sessionOf (s.port p)) w.nextSeq m none] } with
          descriptors := Table.put s.descriptors d { m with seq := some w.nextSeq, repeated := true } }) ∧
    (∀ k m, e.ref = .report k → s.report k = some m →
      exec (.selection p) s = .next
        { withPort
            (withScheduler (withQueue s p q (selectedQueue x r)) p
              (strictServed (s.scheduler p) q turn (decide (r ≠ []))))
            p
            { s.port p with
              window := selectedWindow w e.ref [reportFrame (sessionOf (s.port p)) w.nextSeq m] } with
          reports := Table.put s.reports k { m with seq := some w.nextSeq, repeated := true } })

/-- At the first transmission of a message, its IN_TRANSIT grant takes the lowest FREE slot of the receiving station as
RESERVED when its family is OPEN and the limits leave room, and otherwise becomes VOID, revoked or for want of room, and
leaves the live count; the DELIVERY shows PENDING, WITHDRAWN or NO_ROOM. The last copy of a family that becomes VOID closes
the family in the same event (report record numbers are the model's choice, log 6). A transmission after return makes no
claim. -/
def Obligations.FirstTransmissionResolvesTheGrant : Prop :=
  ∀ (p : PortId) (s : State) (q : Nat) (turn : List Nat) (x : Queue) (e : ListEntry) (r : List ListEntry) (d : Nat)
    (m : Descriptor) (g : CarriedGrant) (y : Family),
    SelectionReady s p → (s.scheduler p).active.b0 = q :: turn → s.queue p q = some x → x.list = e :: r →
    e.ref = .message d → s.descriptor d = some m → m.grant = some g → s.family g.family = some y →
    let w := (s.port p).window
    let n := Table.lowestFree (Bank.get s.tables p) 1
    let sent := fun c : CarriedState =>
      some { m with seq := some w.nextSeq, repeated := true, grant := some { g with state := c } }
    let window := fun o : GrantSection =>
      selectedWindow w e.ref [messageFrame (sessionOf (s.port p)) w.nextSeq m (some o)]
    (m.repeated = false → g.state = .inTransit → y.state = .opened →
      Bank.get s.slotsInUse p < (s.station p).grantLimit → s.storeUse < 4096 →
      ∃ t, exec (.selection p) s = .next t ∧
        t.tables = (withTable s p (Table.put (Bank.get s.tables p) n ⟨.reserved d, g.family, g.rights, g.budget⟩)).tables ∧
        t.slotsInUse = Bank.set s.slotsInUse p (Bank.get s.slotsInUse p + 1) ∧ t.storeUse = s.storeUse + 1 ∧
        t.families = s.families ∧ t.descriptor d = sent (.reserved n) ∧
        (t.port p).window = window (.pending n g.rights g.budget y.tag)) ∧
    (m.repeated = false → g.state = .inTransit → y.state = .opened → 1 < y.live →
      ¬ (Bank.get s.slotsInUse p < (s.station p).grantLimit ∧ s.storeUse < 4096) →
      ∃ t, exec (.selection p) s = .next t ∧
        t.tables = s.tables ∧ t.slotsInUse = s.slotsInUse ∧ t.storeUse = s.storeUse ∧
        t.families = Table.put s.families g.family { y with live := y.live - 1 } ∧
        t.descriptor d = sent (.void .noRoom) ∧ (t.port p).window = window .noRoom) ∧
    (m.repeated = false → g.state = .inTransit → y.state = .revoking → 1 < y.live →
      ∃ t, exec (.selection p) s = .next t ∧
        t.tables = s.tables ∧ t.slotsInUse = s.slotsInUse ∧ t.storeUse = s.storeUse ∧
        t.families = Table.put s.families g.family { y with live := y.live - 1 } ∧
        t.descriptor d = sent (.void .revoked) ∧ (t.port p).window = window .withdrawn) ∧
    (∀ k, m.repeated = true → g.state = .reserved k →
      ∃ t, exec (.selection p) s = .next t ∧ GrantsKept s t ∧ t.descriptor d = sent (.reserved k) ∧
        (t.port p).window = window (.pending k g.rights g.budget y.tag)) ∧
    (m.repeated = true → g.state = .void .revoked →
      ∃ t, exec (.selection p) s = .next t ∧ GrantsKept s t ∧ t.descriptor d = sent (.void .revoked) ∧
        (t.port p).window = window .withdrawn) ∧
    (m.repeated = false → g.state = .inTransit → y.live ≤ 1 →
      let taken := withScheduler (withQueue s p q (selectedQueue x r)) p
        (strictServed (s.scheduler p) q turn (decide (r ≠ [])))
      let voided := fun (reason : VoidReason) (o : GrantSection) =>
        { withPort (familyClosed taken g.family y) p { s.port p with window := window o } with
          descriptors := Table.put s.descriptors d
            { m with seq := some w.nextSeq, repeated := true, grant := some { g with state := .void reason } } }
      (y.state = .opened → ¬ (Bank.get s.slotsInUse p < (s.station p).grantLimit ∧ s.storeUse < 4096) →
        exec (.selection p) s = .next (voided .noRoom .noRoom)) ∧
      (y.state = .revoking → exec (.selection p) s = .next (voided .revoked .withdrawn)))

namespace Sys2Proof.Claims

/-- The cost of an entry: its cells, and at least 1 (R40, R88). -/
def costOf (s : State) : EntryRef → Nat
  | .message d =>
    match s.descriptor d with
    | none => 1
    | some m => if m.cells = 0 then 1 else m.cells
  | .report _ => 1

/-- Band b of station p has head entry e of its first queue q, whose record is x with r behind e, and `turn` stands
behind q in the band's list (R88). -/
abbrev HeadOf (s : State) (p : PortId) (b : Band) (q : Nat) (turn : List Nat) (x : Queue) (e : ListEntry)
    (r : List ListEntry) : Prop :=
  (s.scheduler p).active.get b = q :: turn ∧ s.queue p q = some x ∧ x.list = e :: r

/-- The head cost of a band; nothing for a band with an empty list (R88). -/
def headCostOf (s : State) (p : PortId) (b : DrrBand) : Option Nat :=
  match (s.scheduler p).active.get b.band with
  | [] => none
  | q :: _ => (s.queue p q).bind (fun x => x.list.head?.map (fun e => costOf s e.ref))

/-- The deficits once the turn has arrived at the band at the pointer, unless its visit is open (R88 step 2). -/
def arrivedDeficit (s : State) (p : PortId) (sch : Scheduler) : Nat :=
  if sch.visitOpen then sch.deficit.get sch.pointer
  else sch.deficit.get sch.pointer + (s.station p).quanta.get sch.pointer

/-- One turn that passes: the band at the pointer is empty, or its deficit does not cover its head cost (R88 steps 1 to
3). -/
inductive Passes (s : State) (p : PortId) : Scheduler → Scheduler → Prop where
  | empty (sch : Scheduler) : sch.active.get sch.pointer.band = [] →
      Passes s p sch { sch with pointer := sch.pointer.following }
  | unpaid (sch : Scheduler) (cost : Nat) : headCostOf s p sch.pointer = some cost →
      arrivedDeficit s p sch < cost →
      Passes s p sch
        { sch with
          deficit := sch.deficit.set sch.pointer (arrivedDeficit s p sch)
          visitOpen := false
          pointer := sch.pointer.following }

/-- Several turns pass, one after the other. -/
inductive TurnsPass (s : State) (p : PortId) : Scheduler → Scheduler → Prop where
  | none (sch : Scheduler) : TurnsPass s p sch sch
  | more (a b c : Scheduler) : Passes s p a b → TurnsPass s p b c → TurnsPass s p a c

/-- The band at the pointer serves: its deficit, after an arrival, covers its head cost (R88 step 3). -/
abbrev Serves (s : State) (p : PortId) (sch : Scheduler) : Prop :=
  ∃ cost, headCostOf s p sch.pointer = some cost ∧ cost ≤ arrivedDeficit s p sch

/-- The scheduler after step 4 of R88: `left` is the deficit after payment, `list` the band's list after its turn, and
`next` the new head cost of a band that stays active. -/
def paidScheduler (sch : Scheduler) (left : Nat) (list : List Nat) (next : Option Nat) : Scheduler :=
  let turned := { sch with active := sch.active.set sch.pointer.band list }
  if list = [] then
    { turned with
      deficit := sch.deficit.set sch.pointer 0, visitOpen := false, pointer := sch.pointer.following }
  else if left < next.getD 1 then
    { turned with
      deficit := sch.deficit.set sch.pointer left, visitOpen := false, pointer := sch.pointer.following }
  else { turned with deficit := sch.deficit.set sch.pointer left, visitOpen := true }

end Sys2Proof.Claims

/-- With band 0 empty, a selection passes turns until the band at the pointer serves, which happens within the selection:
the head entry of that band's first queue becomes outstanding, the band's deficit pays its cost, the queue goes to the
tail of the band's list or leaves it, and the visit stays open exactly when the new head cost still fits. Said where the
resolution of a carried grant closes no family that has the report-on-close flag. -/
def Obligations.SelectionByDeficitRoundRobin : Prop :=
  ∀ (p : PortId) (s : State), SelectionReady s p → (s.scheduler p).active.b0 = [] →
    (∃ b : DrrBand, (s.scheduler p).active.get b.band ≠ []) →
    (∀ b : DrrBand, 1 ≤ (s.station p).quanta.get b ∧
      ((s.scheduler p).active.get b.band ≠ [] → ∃ c, headCostOf s p b = some c ∧ c ≤ 7)) →
    (∀ b : DrrBand, ((s.scheduler p).active.get b.band).Nodup) →
    (∀ e ∈ s.descriptors, ∀ g ∈ e.2.grant, g.state = .inTransit → ∀ y ∈ s.family g.family,
      y.reportOnClose = true → 1 < y.live) →
    ∃ sch q turn x e r t, TurnsPass s p (s.scheduler p) sch ∧ Serves s p sch ∧ HeadOf s p sch.pointer.band q turn x e r ∧
      exec (.selection p) s = .next t ∧
      t.queue p q = some (selectedQueue x r) ∧
      (t.port p).window.outstanding = (s.port p).window.outstanding ++ [e.ref] ∧
      (t.port p).window.credit = (s.port p).window.credit - 1 ∧
      (t.port p).window.nextSeq = (s.port p).window.nextSeq + 1 ∧
      ∃ next, t.scheduler p =
        paidScheduler sch (arrivedDeficit s p sch - costOf s e.ref) (if r = [] then turn else turn ++ [q]) next ∧
        (∀ q' turn' y e' r', (if r = [] then turn else turn ++ [q]) = q' :: turn' → q' ≠ q → s.queue p q' = some y →
          y.list = e' :: r' → next = some (costOf s e'.ref)) ∧
        (∀ e' r', turn = [] → r = e' :: r' → next = some (costOf s e'.ref))

/-! ### Expiry and the egress link -/

namespace Sys2Proof.Claims

/-- The grant section an attached grant shows in its present state (R105, R106). -/
def sectionOf (s : State) (g : CarriedGrant) : Option GrantSection :=
  match g.state with
  | .inTransit => none
  | .reserved n => some (.pending n g.rights g.budget (((s.family g.family).map Family.tag).getD 0))
  | .void .revoked => some .withdrawn
  | .void .noRoom => some .noRoom

/-- The DELIVERY frame of an outstanding entry in its present state, with its own delivery sequence (R112). -/
def frameOf (s : State) (session : Nat) : EntryRef → Option DeliveryFrame
  | .message d =>
    (s.descriptor d).bind (fun m => m.seq.map (fun n => messageFrame session n m (m.grant.bind (sectionOf s))))
  | .report k => (s.report k).bind (fun m => m.seq.map (fun n => reportFrame session n m))

end Sys2Proof.Claims

/-- An expiry is due when the timer has run out. It raises the retry count: within the retry limit every frame of the
window not yet begun is withdrawn, the whole outstanding list is built again in its order and the timer restarts; beyond
it the port is fenced with cause RETRIES. With time left, or with a stopped timer, EXPIRY changes nothing, which is the
model's choice (log 2); after an ACK that makes progress an expiry that was due does not happen. -/
def Obligations.ExpirySendsTheWindowAgainOrFences : Prop :=
  ∀ (p : PortId) (s : State),
    ((s.port p).window.timer ≠ some 0 → exec (.expiry p) s = .next s) ∧
    ((s.port p).window.timer = some 0 → (s.port p).window.retryCount + 1 ≤ (s.port p).window.retryLimit →
      exec (.expiry p) s = .next
        (withPort s p
          { s.port p with
            window :=
              { (s.port p).window with
                retryCount := (s.port p).window.retryCount + 1
                timer := some (s.port p).window.ackTimeout
                newDeliveries := []
                retransmissions :=
                  (s.port p).window.outstanding.filterMap (frameOf s (sessionOf (s.port p))) } })) ∧
    (RetryFence s p →
      ∃ t, exec (.expiry p) s = .next t ∧ OnlyPort s t p ∧
        t.port p =
          { endedPort (s.port p) with state := .fenced, fenceCause := some .retries, linkReply := none }) ∧
    ∀ (ses seq cr : Byte) (x : Session), ses.toNat ≤ 15 → cr.toNat ≤ 15 → (s.port p).state = .active →
      (s.port p).session = some x → ses.toNat = x.number →
      (∃ e ∈ (s.port p).window.outstanding, s.entrySeq e = some seq) → 1 ≤ (s.port p).window.ackTimeout →
      ∃ t, exec (.ack p (sealFrame [0x03, ses, 1, seq, cr])) s = .next t ∧ exec (.expiry p) t = .next t

/-- The egress link of an IDLE or ACTIVE port is granted to the link reply, else to the oldest answer, else to the oldest
retransmission, else to the oldest new delivery, which leaves its waiting place and is sent whole with its CRC; a DOWN or
FENCED port sends nothing. That the arbitration ends the frame in progress, which is forgotten when nothing follows it, is
the model's choice (log 7). -/
def Obligations.EgressLinkServesClassesInOrder : Prop :=
  ∀ (p : PortId) (s : State),
    let x := s.port p
    ((x.state = .down ∨ x.state = .fenced) → exec (.egressArbitration p) s = .next (withPort s p { x with line := none })) ∧
    ((x.state = .idle ∨ x.state = .active) →
      (∀ r, x.linkReply = some r →
        exec (.egressArbitration p) s = .next
          (withPort s p { x with linkReply := none, line := some (sealFrame (r.bytes p)) })) ∧
      (∀ a rest, x.linkReply = none → x.answers = a :: rest →
        exec (.egressArbitration p) s = .next
          (withPort s p { x with answers := rest, line := some (sealFrame a.bytes) })) ∧
      (∀ f rest, x.linkReply = none → x.answers = [] → x.window.retransmissions = f :: rest →
        exec (.egressArbitration p) s = .next
          (withPort s p
            { x with line := some (sealFrame f.bytes), window := { x.window with retransmissions := rest } })) ∧
      (∀ f rest, x.linkReply = none → x.answers = [] → x.window.retransmissions = [] →
        x.window.newDeliveries = f :: rest →
        exec (.egressArbitration p) s = .next
          (withPort s p
            { x with line := some (sealFrame f.bytes), window := { x.window with newDeliveries := rest } })) ∧
      (x.linkReply = none → x.answers = [] → x.window.retransmissions = [] → x.window.newDeliveries = [] →
        exec (.egressArbitration p) s = .next (withPort s p { x with line := none })))

/-! ### The steps of a sweep -/

namespace Sys2Proof.Claims

/-- The slot of this record is to be freed by sweep x at station t (R127). -/
abbrev ToBeFreed (s : State) (x : Sweep) (t : StationId) (z : Slot) : Prop :=
  (∃ y, s.family z.family = some y ∧ y.state = .revoking) ∨ x.subject = .evict t

/-- Slot (u, m) comes after slot (t, n) (R127). -/
abbrev SlotAfter (t : StationId) (n : Nat) (u : StationId) (m : Nat) : Prop :=
  (n < 1023 ∧ u = t ∧ m = n + 1) ∨ (n = 1023 ∧ u.val = t.val + 1 ∧ m = 1)

/-- State s in which slot (t, n) of family f, whose record is y with more copies, has become FREE (R18). -/
def slotFreed (s : State) (t : StationId) (n f : Nat) (y : Family) : State :=
  { withTable s t (Table.erase (Bank.get s.tables t) n) with
    families := Table.put s.families f { y with live := y.live - 1 }
    slotsInUse := Bank.set s.slotsInUse t (Bank.get s.slotsInUse t - 1)
    storeUse := s.storeUse - 1 }

/-- State s in which sweep x has ended (R138); its report has been dealt with before. -/
def sweepEnded (s : State) (x : Sweep) : State :=
  { s with sweep := none, lastCompleted := some ⟨x.ticket, x.subject, x.slotsFreed, x.messagesFreed⟩ }

/-- Sweep x has a requester that is to be told (R138). -/
abbrev ToldTo (s : State) (x : Sweep) : Prop :=
  Enabled s x.requester ∧ (s.station x.requester).generation = x.requesterGeneration

/-- State s in which sweep x has ended, with its SWEEP COMPLETE report placed or lost when it is called for (R138). -/
def sweepFinished (s : State) (x : Sweep) : State :=
  sweepEnded
    (if ToldTo s x then
      reported s x.requester (.sweepComplete x.ticket x.subject x.slotsFreed x.messagesFreed)
    else s) x

/-- q is the lowest-numbered PURGING queue of station u from `least` on (R136). -/
abbrev NextPurging (s : State) (u : StationId) (least q : Nat) : Prop :=
  Table.canonical (Bank.get s.queues u) = true ∧ least ≤ q ∧
    (∃ y, s.queue u q = some y ∧ y.state = .purging) ∧
    ∀ e ∈ Bank.get s.queues u, least ≤ e.1 → e.1 < q → e.2.state ≠ .purging

/-- The step of sweep x that reaches slot (t, n) leaves state h and sweep x', but for the cursor: nothing is done with a
slot that is FREE or not to be freed; another is freed, and the grant of the descriptor it was reserved for is VOID
(R127). -/
inductive SlotReached (s : State) (x : Sweep) (t : StationId) (n : Nat) : State → Sweep → Prop where
  | passed : (∀ z, s.slot t n = some z → ¬ ToBeFreed s x t z) → SlotReached s x t n s x
  | defined (z : Slot) (y : Family) : s.slot t n = some z → ToBeFreed s x t z → s.family z.family = some y →
      z.status = .defined →
      SlotReached s x t n (copyEnded (slotVacated s t n) z.family y) { x with slotsFreed := x.slotsFreed + 1 }
  | reserved (z : Slot) (y : Family) (d : Nat) (k : Descriptor) (g : CarriedGrant) : s.slot t n = some z →
      ToBeFreed s x t z → s.family z.family = some y → z.status = .reserved d → s.descriptor d = some k →
      k.grant = some g → g.state = .reserved n →
      SlotReached s x t n
        { copyEnded (slotVacated s t n) z.family y with
          descriptors := Table.put s.descriptors d { k with grant := some { g with state := .void .revoked } } }
        { x with slotsFreed := x.slotsFreed + 1 }

/-- State s in which the pass complete mark of queue (t, q) has been set (R50, R128). -/
def queueMarked (s : State) (t : StationId) (q : Nat) : State :=
  match s.queue t q with
  | none => s
  | some y => settled s t q { y with passComplete := true }

/-- State s in which the evict of station t has completed (R137). -/
def evictDone (s : State) (t : StationId) : State :=
  withScheduler
    (withStation s t ⟨.absent, (s.station t).generation, false, 0, 0, 0, 0, ⟨8, 4, 2⟩⟩) t
    { s.scheduler t with pointer := .b1, visitOpen := false }

/-- The last entry of queue (t, q), or none, is freed by the step of sweep x, which leaves state h and sweep x' before the
mark is set (R128). -/
inductive LastFreed (s : State) (x : Sweep) (t : StationId) (q : Nat) (y : Queue) : State → Sweep → Prop where
  | empty : y.list = [] → LastFreed s x t q y s x
  | last (e : ListEntry) (slots : Nat) (h : State) : y.list = [e] →
      Withdrawn (withQueue s t q { y with list := [] }) false e.ref slots h →
      LastFreed s x t q y h
        { x with slotsFreed := x.slotsFreed + slots, messagesFreed := x.messagesFreed + 1 }

end Sys2Proof.Claims

/-- A step of the slot pass leaves a FREE slot, and a slot that is not to be freed, as they are; it frees a slot of a
REVOKING family, or any slot of the evicted station, voiding the grant of the descriptor a RESERVED slot was reserved for;
the cursor moves on. The last copy of a family closes it in the same step. At slot (7, 1023), whatever becomes of that
slot, a REVOKE sweep ends, with its report to a requester still ENABLED under its recorded generation placed or counted as
lost, and a PURGE or EVICT goes on to its queue pass. The number of a report record is the model's choice (log 6). -/
def Obligations.SlotPassStepFreesAndMovesOn : Prop :=
  ∀ (s : State) (x : Sweep) (t : StationId) (n : Nat), s.sweep = some x → x.cursor = .slotPass t n →
    (∀ u m, SlotAfter t n u m →
      ((∀ z, s.slot t n = some z → ¬ ToBeFreed s x t z) →
        exec .slotPassStep s = .next { s with sweep := some { x with cursor := .slotPass u m } }) ∧
      (∀ z y, s.slot t n = some z → ToBeFreed s x t z → s.family z.family = some y → 1 < y.live →
        (z.status = .defined →
          exec .slotPassStep s = .next
            { slotFreed s t n z.family y with
              sweep := some { x with cursor := .slotPass u m, slotsFreed := x.slotsFreed + 1 } }) ∧
        (∀ d k g, z.status = .reserved d → s.descriptor d = some k → k.grant = some g → g.state = .reserved n →
          exec .slotPassStep s = .next
            { slotFreed s t n z.family y with
              descriptors := Table.put s.descriptors d { k with grant := some { g with state := .void .revoked } }
              sweep := some { x with cursor := .slotPass u m, slotsFreed := x.slotsFreed + 1 } }))) ∧
    (t = 7 → n = 1023 → (∀ z, s.slot t n = some z → ¬ ToBeFreed s x t z) →
      (∀ f, x.subject = .revoke f → ¬ ToldTo s x → exec .slotPassStep s = .next (sweepEnded s x)) ∧
      (∀ f q, x.subject = .revoke f → ToldTo s x → s.queue x.requester 0 = some q → s.freeReports ≠ 0 →
        q.heldMessages < 32 →
        exec .slotPassStep s = .next
          (sweepEnded
            (withReport s x.requester q (.sweepComplete x.ticket (.revoke f) x.slotsFreed x.messagesFreed)) x)) ∧
      (∀ u q, x.subject = .purge u q →
        exec .slotPassStep s = .next { s with sweep := some { x with cursor := .queuePass u q } }) ∧
      (∀ u q y, x.subject = .evict u → s.queue u q = some y → y.state = .purging →
        (∀ e ∈ Bank.get s.queues u, e.1 < q → e.2.state ≠ .purging) →
        Table.canonical (Bank.get s.queues u) = true →
        exec .slotPassStep s = .next { s with sweep := some { x with cursor := .queuePass u q } })) ∧
    (∀ h x', SlotReached s x t n h x' →
      (∀ u m, SlotAfter t n u m →
        exec .slotPassStep s = .next { h with sweep := some { x' with cursor := .slotPass u m } }) ∧
      (t = 7 → n = 1023 →
        (∀ f, x.subject = .revoke f → exec .slotPassStep s = .next (sweepFinished h x')) ∧
        (∀ u q, x.subject = .purge u q →
          exec .slotPassStep s = .next { h with sweep := some { x' with cursor := .queuePass u q } }) ∧
        (∀ u q, x.subject = .evict u → NextPurging h u 0 q →
          exec .slotPassStep s = .next { h with sweep := some { x' with cursor := .queuePass u q } })))

/-- A step of the queue pass frees the head entry of the queue at the cursor, a message with its carried grant or a report:
its record and cells return to the pool and the held counts fall. While entries remain the cursor stays. With the last
entry, or with an empty list, the mark is set in the same step, and a queue that holds nothing becomes UNUSED: a PURGE then
ends, and an EVICT goes on to its next PURGING queue or leaves its station ABSENT and ends, with SWEEP COMPLETE placed or
counted as lost. The number of a report record is the model's choice (log 6). -/
def Obligations.QueuePassStepFreesTheHead : Prop :=
  ∀ (s : State) (x : Sweep) (t : StationId) (q : Nat) (y : Queue), s.sweep = some x → x.cursor = .queuePass t q →
    s.queue t q = some y → y.state = .purging → y.passComplete = false →
    (∀ e r slots h, y.list = e :: r → r ≠ [] →
      Withdrawn (withQueue s t q { y with list := r }) false e.ref slots h →
      exec .queuePassStep s = .next
        { h with
          sweep := some
            { x with slotsFreed := x.slotsFreed + slots, messagesFreed := x.messagesFreed + 1 } }) ∧
    (∀ e r d m, y.list = e :: r → r ≠ [] → e.ref = .message d → s.descriptor d = some m → NoGrantHeld m →
      exec .queuePassStep s = .next
        { messageReleased (withQueue s t q { y with list := r }) d m false with
          sweep := some { x with messagesFreed := x.messagesFreed + 1 } }) ∧
    (y.list = [] → x.subject = .purge t q →
      exec .queuePassStep s = .next (sweepFinished (settled s t q { y with passComplete := true }) x)) ∧
    (∀ h x', LastFreed s x t q y h x' →
      (x.subject = .purge t q → exec .queuePassStep s = .next (sweepFinished (queueMarked h t q) x')) ∧
      (x.subject = .evict t →
        (∀ r, NextPurging (queueMarked h t q) t (q + 1) r →
          exec .queuePassStep s = .next
            { queueMarked h t q with sweep := some { x' with cursor := .queuePass t r } }) ∧
        ((∀ e ∈ Bank.get (queueMarked h t q).queues t, q < e.1 → e.2.state ≠ .purging) →
          exec .queuePassStep s = .next (sweepFinished (evictDone (queueMarked h t q) t) x'))))

/-! ### Invariants of every step -/

/-- Every step keeps the grant tables in canonical form, the slots in use equal to the slots that are not FREE, and the
store use count their total, at most 4096. -/
def Obligations.StepsKeepSlotsCounted : Prop :=
  ∀ s t : State, s.slotsCounted → step s = .next t → t.slotsCounted

/-- Every step keeps the stores canonical and every live count equal to the family's copies, at least 1. -/
def Obligations.StepsKeepLiveCounts : Prop :=
  ∀ s t : State, s.storesCanonical ∧ s.liveCounted → step s = .next t → t.storesCanonical ∧ t.liveCounted

/-- Every step keeps the stores canonical and the pool whole: free and held cells, descriptors and report records add up
to their capacities. -/
def Obligations.StepsKeepThePoolWhole : Prop :=
  ∀ s t : State, s.storesCanonical ∧ s.poolConserved → step s = .next t → t.storesCanonical ∧ t.poolConserved

/-- Every step keeps every port coherent: the bounds of its lists and counts, and what each port state says of session,
queues and window. -/
def Obligations.StepsKeepPortsCoherent : Prop :=
  ∀ s t : State, s.portsCoherent → step s = .next t → t.portsCoherent

/-- Every step leaves at least one ENABLED station that holds MANAGE. -/
def Obligations.StepsKeepAManageHolder : Prop :=
  ∀ s t : State, s.managed → step s = .next t → t.managed

/-- Every step keeps the active lists equal to the OPEN and SEALED queues that hold listed entries, each once and in its
band, an emptied band of 1 to 3 without deficit or open visit. -/
def Obligations.StepsKeepActiveLists : Prop :=
  ∀ s t : State, s.schedulersCoherent → step s = .next t → t.schedulersCoherent

/-- The state after reset satisfies every invariant. -/
def Obligations.ResetSatisfiesTheInvariants : Prop :=
  State.reset.slotsCounted ∧ State.reset.storesCanonical ∧ State.reset.liveCounted ∧ State.reset.poolConserved ∧
    State.reset.portsCoherent ∧ State.reset.managed ∧ State.reset.schedulersCoherent

/-! ### Upstream frames -/

/-- Every well-formed upstream frame is read back from its bytes with every field. -/
def Obligations.FramesAreReadBack : Prop :=
  ∀ a : Arrival, a.wf = true → classify a.encode = a
end

