-- ==== Sys2Proof/Laws/Table.lean ====
section
/-! SUPPORT. Lemmas of the sparse stores and the banks: what a record reads as after a change, and that every change
keeps the canonical form. -/

namespace Sys2Proof.Machine

/-! ### Banks -/

@[simp] theorem Bank.get_set_self {α : Type} (v : Bank α) (t : Fin 8) (x : α) : Bank.get (Bank.set v t x) t = x := by
  simp [Bank.get, Bank.set]

theorem Bank.get_set_ne {α : Type} (v : Bank α) {t u : Fin 8} (x : α) (h : u ≠ t) :
    Bank.get (Bank.set v t x) u = Bank.get v u := by
  have : ¬ t.val = u.val := fun e => h (Fin.ext e.symm)
  simp [Bank.get, Bank.set, this]

theorem Bank.get_set {α : Type} (v : Bank α) (t u : Fin 8) (x : α) :
    Bank.get (Bank.set v t x) u = if u = t then x else Bank.get v u := by
  by_cases h : u = t
  · subst h; simp
  · simp [h, Bank.get_set_ne]

@[simp] theorem Bank.set_get_self {α : Type} (v : Bank α) (t : Fin 8) : Bank.set v t (Bank.get v t) = v := by
  simp [Bank.get, Bank.set]

@[simp] theorem Bank.set_set {α : Type} (v : Bank α) (t : Fin 8) (x y : α) :
    Bank.set (Bank.set v t x) t y = Bank.set v t y := by
  simp [Bank.set]

theorem Bank.set_comm {α : Type} (v : Bank α) {t u : Fin 8} (x y : α) (h : t ≠ u) :
    Bank.set (Bank.set v t x) u y = Bank.set (Bank.set v u y) t x := by
  have : t.val ≠ u.val := fun e => h (Fin.ext e)
  simp [Bank.set, Vector.set_comm _ _ this]

@[simp] theorem Bank.get_fill {α : Type} (x : α) (t : Fin 8) : Bank.get (Bank.fill x) t = x := by
  simp [Bank.get, Bank.fill]

@[simp] theorem Bank.get_mapIdx {α β : Type} (v : Bank α) (f : Fin 8 → α → β) (t : Fin 8) :
    Bank.get (Bank.mapIdx v f) t = f t (Bank.get v t) := by
  simp [Bank.get, Bank.mapIdx]

/-- Two banks that agree on all eight items are equal. -/
theorem Bank.ext_get {α : Type} {v w : Bank α} (h : ∀ t, Bank.get v t = Bank.get w t) : v = w := by
  apply Vector.ext
  intro i hi
  exact h ⟨i, hi⟩

/-! ### Records -/

@[simp] theorem Table.find_nil {α : Type} (k : Nat) : Table.find ([] : Table α) k = none := rfl

@[simp] theorem Table.find_put_self {α : Type} (t : Table α) (k : Nat) (x : α) :
    Table.find (Table.put t k x) k = some x := by
  induction t with
  | nil => simp [Table.put, Table.find]
  | cons e r ih =>
    obtain ⟨a, y⟩ := e
    simp only [Table.put]
    split
    · simp [Table.find]
    · split
      · simp [Table.find]
      · rename_i h2
        simp [Table.find, Ne.symm h2, ih]

theorem Table.find_put_ne {α : Type} (t : Table α) {k j : Nat} (x : α) (h : j ≠ k) :
    Table.find (Table.put t k x) j = Table.find t j := by
  induction t with
  | nil => simp [Table.put, Table.find, Ne.symm h]
  | cons e r ih =>
    obtain ⟨a, y⟩ := e
    simp only [Table.put]
    split
    · simp [Table.find, Ne.symm h]
    · split
      · rename_i h2
        subst h2
        simp [Table.find, Ne.symm h]
      · simp [Table.find, ih]

theorem Table.find_erase_ne {α : Type} (t : Table α) {k j : Nat} (h : j ≠ k) :
    Table.find (Table.erase t k) j = Table.find t j := by
  induction t with
  | nil => rfl
  | cons e r ih =>
    obtain ⟨a, y⟩ := e
    simp only [Table.erase]
    split
    · rename_i h2
      subst h2
      simp [Table.find, Ne.symm h]
    · simp [Table.find, ih]

theorem Table.find_mapRecords {α : Type} (t : Table α) (f : α → α) (k : Nat) :
    Table.find (Table.mapRecords t f) k = (Table.find t k).map f := by
  induction t with
  | nil => rfl
  | cons e r ih =>
    obtain ⟨a, y⟩ := e
    simp only [Table.mapRecords, List.map_cons, Table.find]
    split
    · rfl
    · exact ih

/-! ### The canonical form -/

/-- The canonical form, as a relation between all pairs of numbers. -/
theorem Table.canonical_iff {α : Type} (t : Table α) :
    Table.canonical t = true ↔ t.Pairwise (fun a b => a.1 < b.1) := by
  induction t with
  | nil => simp [Table.canonical]
  | cons e r ih =>
    cases r with
    | nil => simp [Table.canonical]
    | cons e2 r2 =>
      simp only [Table.canonical, Bool.and_eq_true, decide_eq_true_eq, ih, List.pairwise_cons]
      constructor
      · rintro ⟨h1, h2, h3⟩
        refine ⟨?_, h2, h3⟩
        intro b hb
        rcases List.mem_cons.mp hb with rfl | hb
        · exact h1
        · exact lt_trans h1 (h2 b hb)
      · rintro ⟨h1, h2, h3⟩
        exact ⟨h1 _ (by simp), h2, h3⟩

theorem Table.find_none_of_lt {α : Type} (t : Table α) (k : Nat) (h : ∀ e ∈ t, k < e.1) : Table.find t k = none := by
  induction t with
  | nil => rfl
  | cons e r ih =>
    obtain ⟨a, y⟩ := e
    have h1 : k < a := h (a, y) (by simp)
    simp only [Table.find, if_neg (Nat.ne_of_gt h1)]
    exact ih (fun e he => h e (by simp [he]))

theorem Table.mem_put {α : Type} {t : Table α} {k : Nat} {x : α} {e : Nat × α} (h : e ∈ Table.put t k x) :
    e = (k, x) ∨ e ∈ t := by
  induction t with
  | nil => simpa [Table.put] using h
  | cons a r ih =>
    obtain ⟨a, y⟩ := a
    simp only [Table.put] at h
    split at h
    · simpa using h
    · split at h
      · rcases List.mem_cons.mp h with h | h
        · exact Or.inl h
        · exact Or.inr (by simp [h])
      · rcases List.mem_cons.mp h with h | h
        · exact Or.inr (by simp [h])
        · rcases ih h with h | h
          · exact Or.inl h
          · exact Or.inr (by simp [h])

theorem Table.mem_erase {α : Type} {t : Table α} {k : Nat} {e : Nat × α} (h : e ∈ Table.erase t k) : e ∈ t := by
  induction t with
  | nil => simp [Table.erase] at h
  | cons a r ih =>
    obtain ⟨a, y⟩ := a
    simp only [Table.erase] at h
    split at h
    · simp [h]
    · rcases List.mem_cons.mp h with h | h
      · simp [h]
      · simp [ih h]

theorem Table.canonical_put {α : Type} (t : Table α) (k : Nat) (x : α) (h : Table.canonical t = true) :
    Table.canonical (Table.put t k x) = true := by
  rw [Table.canonical_iff] at *
  induction t with
  | nil => simp [Table.put]
  | cons e r ih =>
    obtain ⟨a, y⟩ := e
    rw [List.pairwise_cons] at h
    simp only [Table.put]
    split
    · rename_i hk
      rw [List.pairwise_cons]
      refine ⟨?_, List.pairwise_cons.mpr h⟩
      intro b hb
      rcases List.mem_cons.mp hb with rfl | hb
      · exact hk
      · exact lt_trans hk (h.1 b hb)
    · split
      · rename_i _ hk
        subst hk
        exact List.pairwise_cons.mpr h
      · rename_i hk1 hk2
        rw [List.pairwise_cons]
        refine ⟨?_, ih h.2⟩
        intro b hb
        rcases Table.mem_put hb with rfl | hb
        · show a < k
          omega
        · exact h.1 b hb

theorem Table.canonical_erase {α : Type} (t : Table α) (k : Nat) (h : Table.canonical t = true) :
    Table.canonical (Table.erase t k) = true := by
  rw [Table.canonical_iff] at *
  induction t with
  | nil => simp [Table.erase]
  | cons e r ih =>
    obtain ⟨a, y⟩ := e
    rw [List.pairwise_cons] at h
    simp only [Table.erase]
    split
    · exact h.2
    · rw [List.pairwise_cons]
      exact ⟨fun b hb => h.1 b (Table.mem_erase hb), ih h.2⟩

theorem Table.canonical_mapRecords {α : Type} (t : Table α) (f : α → α) (h : Table.canonical t = true) :
    Table.canonical (Table.mapRecords t f) = true := by
  rw [Table.canonical_iff] at *
  simpa [Table.mapRecords, List.pairwise_map] using h

@[simp] theorem Table.find_erase_self {α : Type} (t : Table α) (k : Nat) (h : Table.canonical t = true) :
    Table.find (Table.erase t k) k = none := by
  rw [Table.canonical_iff] at h
  induction t with
  | nil => rfl
  | cons e r ih =>
    obtain ⟨a, y⟩ := e
    rw [List.pairwise_cons] at h
    simp only [Table.erase]
    split
    · rename_i hk
      subst hk
      exact Table.find_none_of_lt r a (fun e he => h.1 e he)
    · rename_i hk
      simp [Table.find, hk, ih h.2]

/-- An erased record reads as FREE or UNUSED; the others read as before. -/
theorem Table.find_erase {α : Type} (t : Table α) (k j : Nat) (h : Table.canonical t = true) :
    Table.find (Table.erase t k) j = if j = k then none else Table.find t j := by
  by_cases e : j = k
  · subst e; simp [h]
  · simp [e, Table.find_erase_ne]

theorem Table.find_put {α : Type} (t : Table α) (k j : Nat) (x : α) :
    Table.find (Table.put t k x) j = if j = k then some x else Table.find t j := by
  by_cases e : j = k
  · subst e; simp
  · simp [e, Table.find_put_ne]

/-! ### The lowest free number -/

theorem Table.le_lowestFree {α : Type} (t : Table α) (lo : Nat) : lo ≤ Table.lowestFree t lo := by
  induction t generalizing lo with
  | nil => simp [Table.lowestFree]
  | cons e r ih =>
    obtain ⟨a, y⟩ := e
    simp only [Table.lowestFree]
    split
    · exact ih lo
    · split
      · exact le_trans (Nat.le_succ lo) (ih (lo + 1))
      · exact le_refl lo

/-- The number found is FREE. -/
theorem Table.find_lowestFree {α : Type} (t : Table α) (lo : Nat) (h : Table.canonical t = true) :
    Table.find t (Table.lowestFree t lo) = none := by
  rw [Table.canonical_iff] at h
  induction t generalizing lo with
  | nil => rfl
  | cons e r ih =>
    obtain ⟨a, y⟩ := e
    rw [List.pairwise_cons] at h
    simp only [Table.lowestFree]
    split
    · rename_i hlt
      have := Table.le_lowestFree r lo
      have hne : a ≠ Table.lowestFree r lo := by omega
      simp [Table.find, hne, ih lo h.2]
    · split
      · have := Table.le_lowestFree r (lo + 1)
        have hne : a ≠ Table.lowestFree r (lo + 1) := by omega
        simp [Table.find, hne, ih (lo + 1) h.2]
      · rename_i h1 h2
        have hne : a ≠ lo := h2
        simp only [Table.find, if_neg hne]
        refine Table.find_none_of_lt r lo (fun e he => ?_)
        have := h.1 e he
        simp at this
        omega

/-- Every number from lo up to the one found is not FREE: it is the lowest (R3, R12, R51). -/
theorem Table.lowestFree_lowest {α : Type} (t : Table α) (lo k : Nat) (h1 : lo ≤ k) (h2 : k < Table.lowestFree t lo) :
    Table.find t k ≠ none := by
  induction t generalizing lo with
  | nil => simp [Table.lowestFree] at h2; omega
  | cons e r ih =>
    obtain ⟨a, y⟩ := e
    simp only [Table.lowestFree] at h2
    by_cases hk : a = k
    · simp [Table.find, hk]
    · simp only [Table.find, if_neg hk]
      split at h2
      · exact ih lo h1 h2
      · split at h2
        · rename_i _ ha
          exact ih (lo + 1) (by omega) h2
        · omega

/-! ### Sizes -/

theorem Table.length_put_new {α : Type} (t : Table α) (k : Nat) (x : α) (h : Table.find t k = none) :
    (Table.put t k x).length = t.length + 1 := by
  induction t with
  | nil => rfl
  | cons e r ih =>
    obtain ⟨a, y⟩ := e
    simp only [Table.find] at h
    split at h
    · cases h
    · rename_i hk
      simp only [Table.put]
      split
      · simp
      · split
        · rename_i _ he
          exact absurd he.symm hk
        · simp [ih h]

theorem Table.length_put_old {α : Type} (t : Table α) (k : Nat) (x : α) (hc : Table.canonical t = true)
    (h : Table.find t k ≠ none) : (Table.put t k x).length = t.length := by
  rw [Table.canonical_iff] at hc
  induction t with
  | nil => simp at h
  | cons e r ih =>
    obtain ⟨a, y⟩ := e
    rw [List.pairwise_cons] at hc
    simp only [Table.put]
    split
    · rename_i hk
      exfalso
      apply h
      refine Table.find_none_of_lt _ k (fun e he => ?_)
      rcases List.mem_cons.mp he with rfl | he
      · exact hk
      · exact lt_trans hk (hc.1 e he)
    · split
      · simp
      · rename_i h2 hk
        simp only [Table.find, if_neg (Ne.symm hk)] at h
        simp [ih hc.2 h]

theorem Table.length_erase {α : Type} (t : Table α) (k : Nat) (h : Table.find t k ≠ none) :
    (Table.erase t k).length + 1 = t.length := by
  induction t with
  | nil => simp at h
  | cons e r ih =>
    obtain ⟨a, y⟩ := e
    simp only [Table.find] at h
    simp only [Table.erase]
    split
    · simp
    · rename_i hk
      simp only [if_neg hk] at h
      simp [ih h]

/-! ### Sums and counts over the records -/

/-- The sum of a measure over the records. -/
def Table.sumOf {α : Type} (t : Table α) (f : α → Nat) : Nat := (t.map (fun e => f e.2)).sum

theorem Table.sumOf_put_new {α : Type} (t : Table α) (k : Nat) (x : α) (f : α → Nat) (h : Table.find t k = none) :
    Table.sumOf (Table.put t k x) f = Table.sumOf t f + f x := by
  induction t with
  | nil => simp [Table.put, Table.sumOf]
  | cons e r ih =>
    obtain ⟨a, y⟩ := e
    simp only [Table.find] at h
    split at h
    · cases h
    · rename_i hk
      simp only [Table.put]
      split
      · simp [Table.sumOf]; omega
      · split
        · rename_i _ he
          exact absurd he.symm hk
        · have := ih h
          simp [Table.sumOf] at *
          omega

theorem Table.sumOf_put_old {α : Type} (t : Table α) (k : Nat) (x y : α) (f : α → Nat)
    (hc : Table.canonical t = true) (h : Table.find t k = some y) :
    Table.sumOf (Table.put t k x) f + f y = Table.sumOf t f + f x := by
  rw [Table.canonical_iff] at hc
  induction t with
  | nil => simp at h
  | cons e r ih =>
    obtain ⟨a, z⟩ := e
    rw [List.pairwise_cons] at hc
    simp only [Table.put]
    split
    · rename_i hk
      exfalso
      have : Table.find ((a, z) :: r) k = none := by
        refine Table.find_none_of_lt _ k (fun e he => ?_)
        rcases List.mem_cons.mp he with rfl | he
        · exact hk
        · exact lt_trans hk (hc.1 e he)
      rw [this] at h
      cases h
    · split
      · rename_i _ hk
        subst hk
        simp [Table.find] at h
        subst h
        simp [Table.sumOf]; omega
      · rename_i _ hk
        simp only [Table.find, if_neg (Ne.symm hk)] at h
        have := ih hc.2 h
        simp [Table.sumOf] at *
        omega

theorem Table.sumOf_erase {α : Type} (t : Table α) (k : Nat) (y : α) (f : α → Nat) (h : Table.find t k = some y) :
    Table.sumOf (Table.erase t k) f + f y = Table.sumOf t f := by
  induction t with
  | nil => simp at h
  | cons e r ih =>
    obtain ⟨a, z⟩ := e
    simp only [Table.find] at h
    simp only [Table.erase]
    split
    · rename_i hk
      simp [hk] at h
      subst h
      simp [Table.sumOf]; omega
    · rename_i hk
      simp only [if_neg hk] at h
      have := ih h
      simp [Table.sumOf] at *
      omega

/-- A count is a sum of ones. -/
theorem Table.countRecords_eq_sumOf {α : Type} (t : Table α) (f : α → Bool) :
    Table.countRecords t f = Table.sumOf t (fun x => if f x then 1 else 0) := by
  induction t with
  | nil => rfl
  | cons e r ih =>
    simp only [Table.countRecords, Table.sumOf] at ih
    simp only [Table.countRecords, Table.sumOf, List.countP_cons, List.map_cons, List.sum_cons, ih]
    omega

end Sys2Proof.Machine
end

