-- ==== Sys2Proof/Laws/State.lean ====
section
/-! SUPPORT. Beside State: one lemma per field per update, so that no proof unfolds a record update, and what each
access reads after each update. -/

namespace Sys2Proof.Machine

/-! ### setPort -/

@[simp] theorem State.setPort_tables (s : State) (p : PortId) (x : PortLink) : (s.setPort p x).tables = s.tables := rfl
@[simp] theorem State.setPort_slotsInUse (s : State) (p : PortId) (x : PortLink) : (s.setPort p x).slotsInUse = s.slotsInUse := rfl
@[simp] theorem State.setPort_storeUse (s : State) (p : PortId) (x : PortLink) : (s.setPort p x).storeUse = s.storeUse := rfl
@[simp] theorem State.setPort_families (s : State) (p : PortId) (x : PortLink) : (s.setPort p x).families = s.families := rfl
@[simp] theorem State.setPort_queues (s : State) (p : PortId) (x : PortLink) : (s.setPort p x).queues = s.queues := rfl
@[simp] theorem State.setPort_rqsInUse (s : State) (p : PortId) (x : PortLink) : (s.setPort p x).rqsInUse = s.rqsInUse := rfl
@[simp] theorem State.setPort_descriptors (s : State) (p : PortId) (x : PortLink) : (s.setPort p x).descriptors = s.descriptors := rfl
@[simp] theorem State.setPort_freeDescriptors (s : State) (p : PortId) (x : PortLink) : (s.setPort p x).freeDescriptors = s.freeDescriptors := rfl
@[simp] theorem State.setPort_freeCells (s : State) (p : PortId) (x : PortLink) : (s.setPort p x).freeCells = s.freeCells := rfl
@[simp] theorem State.setPort_reports (s : State) (p : PortId) (x : PortLink) : (s.setPort p x).reports = s.reports := rfl
@[simp] theorem State.setPort_freeReports (s : State) (p : PortId) (x : PortLink) : (s.setPort p x).freeReports = s.freeReports := rfl
@[simp] theorem State.setPort_heldCells (s : State) (p : PortId) (x : PortLink) : (s.setPort p x).heldCells = s.heldCells := rfl
@[simp] theorem State.setPort_schedulers (s : State) (p : PortId) (x : PortLink) : (s.setPort p x).schedulers = s.schedulers := rfl
@[simp] theorem State.setPort_sweep (s : State) (p : PortId) (x : PortLink) : (s.setPort p x).sweep = s.sweep := rfl
@[simp] theorem State.setPort_lastTicket (s : State) (p : PortId) (x : PortLink) : (s.setPort p x).lastTicket = s.lastTicket := rfl
@[simp] theorem State.setPort_lastCompleted (s : State) (p : PortId) (x : PortLink) : (s.setPort p x).lastCompleted = s.lastCompleted := rfl
@[simp] theorem State.setPort_stations (s : State) (p : PortId) (x : PortLink) : (s.setPort p x).stations = s.stations := rfl
@[simp] theorem State.setPort_pending (s : State) (p : PortId) (x : PortLink) : (s.setPort p x).pending = s.pending := rfl

/-! ### setWindow -/

@[simp] theorem State.setWindow_tables (s : State) (p : PortId) (w : Window) : (s.setWindow p w).tables = s.tables := rfl
@[simp] theorem State.setWindow_slotsInUse (s : State) (p : PortId) (w : Window) : (s.setWindow p w).slotsInUse = s.slotsInUse := rfl
@[simp] theorem State.setWindow_storeUse (s : State) (p : PortId) (w : Window) : (s.setWindow p w).storeUse = s.storeUse := rfl
@[simp] theorem State.setWindow_families (s : State) (p : PortId) (w : Window) : (s.setWindow p w).families = s.families := rfl
@[simp] theorem State.setWindow_queues (s : State) (p : PortId) (w : Window) : (s.setWindow p w).queues = s.queues := rfl
@[simp] theorem State.setWindow_rqsInUse (s : State) (p : PortId) (w : Window) : (s.setWindow p w).rqsInUse = s.rqsInUse := rfl
@[simp] theorem State.setWindow_descriptors (s : State) (p : PortId) (w : Window) : (s.setWindow p w).descriptors = s.descriptors := rfl
@[simp] theorem State.setWindow_freeDescriptors (s : State) (p : PortId) (w : Window) : (s.setWindow p w).freeDescriptors = s.freeDescriptors := rfl
@[simp] theorem State.setWindow_freeCells (s : State) (p : PortId) (w : Window) : (s.setWindow p w).freeCells = s.freeCells := rfl
@[simp] theorem State.setWindow_reports (s : State) (p : PortId) (w : Window) : (s.setWindow p w).reports = s.reports := rfl
@[simp] theorem State.setWindow_freeReports (s : State) (p : PortId) (w : Window) : (s.setWindow p w).freeReports = s.freeReports := rfl
@[simp] theorem State.setWindow_heldCells (s : State) (p : PortId) (w : Window) : (s.setWindow p w).heldCells = s.heldCells := rfl
@[simp] theorem State.setWindow_schedulers (s : State) (p : PortId) (w : Window) : (s.setWindow p w).schedulers = s.schedulers := rfl
@[simp] theorem State.setWindow_sweep (s : State) (p : PortId) (w : Window) : (s.setWindow p w).sweep = s.sweep := rfl
@[simp] theorem State.setWindow_lastTicket (s : State) (p : PortId) (w : Window) : (s.setWindow p w).lastTicket = s.lastTicket := rfl
@[simp] theorem State.setWindow_lastCompleted (s : State) (p : PortId) (w : Window) : (s.setWindow p w).lastCompleted = s.lastCompleted := rfl
@[simp] theorem State.setWindow_stations (s : State) (p : PortId) (w : Window) : (s.setWindow p w).stations = s.stations := rfl
@[simp] theorem State.setWindow_pending (s : State) (p : PortId) (w : Window) : (s.setWindow p w).pending = s.pending := rfl

/-! ### setStation -/

@[simp] theorem State.setStation_tables (s : State) (t : StationId) (x : Station) : (s.setStation t x).tables = s.tables := rfl
@[simp] theorem State.setStation_slotsInUse (s : State) (t : StationId) (x : Station) : (s.setStation t x).slotsInUse = s.slotsInUse := rfl
@[simp] theorem State.setStation_storeUse (s : State) (t : StationId) (x : Station) : (s.setStation t x).storeUse = s.storeUse := rfl
@[simp] theorem State.setStation_families (s : State) (t : StationId) (x : Station) : (s.setStation t x).families = s.families := rfl
@[simp] theorem State.setStation_queues (s : State) (t : StationId) (x : Station) : (s.setStation t x).queues = s.queues := rfl
@[simp] theorem State.setStation_rqsInUse (s : State) (t : StationId) (x : Station) : (s.setStation t x).rqsInUse = s.rqsInUse := rfl
@[simp] theorem State.setStation_descriptors (s : State) (t : StationId) (x : Station) : (s.setStation t x).descriptors = s.descriptors := rfl
@[simp] theorem State.setStation_freeDescriptors (s : State) (t : StationId) (x : Station) : (s.setStation t x).freeDescriptors = s.freeDescriptors := rfl
@[simp] theorem State.setStation_freeCells (s : State) (t : StationId) (x : Station) : (s.setStation t x).freeCells = s.freeCells := rfl
@[simp] theorem State.setStation_reports (s : State) (t : StationId) (x : Station) : (s.setStation t x).reports = s.reports := rfl
@[simp] theorem State.setStation_freeReports (s : State) (t : StationId) (x : Station) : (s.setStation t x).freeReports = s.freeReports := rfl
@[simp] theorem State.setStation_heldCells (s : State) (t : StationId) (x : Station) : (s.setStation t x).heldCells = s.heldCells := rfl
@[simp] theorem State.setStation_schedulers (s : State) (t : StationId) (x : Station) : (s.setStation t x).schedulers = s.schedulers := rfl
@[simp] theorem State.setStation_ports (s : State) (t : StationId) (x : Station) : (s.setStation t x).ports = s.ports := rfl
@[simp] theorem State.setStation_sweep (s : State) (t : StationId) (x : Station) : (s.setStation t x).sweep = s.sweep := rfl
@[simp] theorem State.setStation_lastTicket (s : State) (t : StationId) (x : Station) : (s.setStation t x).lastTicket = s.lastTicket := rfl
@[simp] theorem State.setStation_lastCompleted (s : State) (t : StationId) (x : Station) : (s.setStation t x).lastCompleted = s.lastCompleted := rfl
@[simp] theorem State.setStation_pending (s : State) (t : StationId) (x : Station) : (s.setStation t x).pending = s.pending := rfl

/-! ### setFamily -/

@[simp] theorem State.setFamily_tables (s : State) (f : Nat) (x : Family) : (s.setFamily f x).tables = s.tables := rfl
@[simp] theorem State.setFamily_slotsInUse (s : State) (f : Nat) (x : Family) : (s.setFamily f x).slotsInUse = s.slotsInUse := rfl
@[simp] theorem State.setFamily_storeUse (s : State) (f : Nat) (x : Family) : (s.setFamily f x).storeUse = s.storeUse := rfl
@[simp] theorem State.setFamily_queues (s : State) (f : Nat) (x : Family) : (s.setFamily f x).queues = s.queues := rfl
@[simp] theorem State.setFamily_rqsInUse (s : State) (f : Nat) (x : Family) : (s.setFamily f x).rqsInUse = s.rqsInUse := rfl
@[simp] theorem State.setFamily_descriptors (s : State) (f : Nat) (x : Family) : (s.setFamily f x).descriptors = s.descriptors := rfl
@[simp] theorem State.setFamily_freeDescriptors (s : State) (f : Nat) (x : Family) : (s.setFamily f x).freeDescriptors = s.freeDescriptors := rfl
@[simp] theorem State.setFamily_freeCells (s : State) (f : Nat) (x : Family) : (s.setFamily f x).freeCells = s.freeCells := rfl
@[simp] theorem State.setFamily_reports (s : State) (f : Nat) (x : Family) : (s.setFamily f x).reports = s.reports := rfl
@[simp] theorem State.setFamily_freeReports (s : State) (f : Nat) (x : Family) : (s.setFamily f x).freeReports = s.freeReports := rfl
@[simp] theorem State.setFamily_heldCells (s : State) (f : Nat) (x : Family) : (s.setFamily f x).heldCells = s.heldCells := rfl
@[simp] theorem State.setFamily_schedulers (s : State) (f : Nat) (x : Family) : (s.setFamily f x).schedulers = s.schedulers := rfl
@[simp] theorem State.setFamily_ports (s : State) (f : Nat) (x : Family) : (s.setFamily f x).ports = s.ports := rfl
@[simp] theorem State.setFamily_sweep (s : State) (f : Nat) (x : Family) : (s.setFamily f x).sweep = s.sweep := rfl
@[simp] theorem State.setFamily_lastTicket (s : State) (f : Nat) (x : Family) : (s.setFamily f x).lastTicket = s.lastTicket := rfl
@[simp] theorem State.setFamily_lastCompleted (s : State) (f : Nat) (x : Family) : (s.setFamily f x).lastCompleted = s.lastCompleted := rfl
@[simp] theorem State.setFamily_stations (s : State) (f : Nat) (x : Family) : (s.setFamily f x).stations = s.stations := rfl
@[simp] theorem State.setFamily_pending (s : State) (f : Nat) (x : Family) : (s.setFamily f x).pending = s.pending := rfl

/-! ### setQueue -/

@[simp] theorem State.setQueue_tables (s : State) (t : StationId) (q : Nat) (x : Queue) : (s.setQueue t q x).tables = s.tables := rfl
@[simp] theorem State.setQueue_slotsInUse (s : State) (t : StationId) (q : Nat) (x : Queue) : (s.setQueue t q x).slotsInUse = s.slotsInUse := rfl
@[simp] theorem State.setQueue_storeUse (s : State) (t : StationId) (q : Nat) (x : Queue) : (s.setQueue t q x).storeUse = s.storeUse := rfl
@[simp] theorem State.setQueue_families (s : State) (t : StationId) (q : Nat) (x : Queue) : (s.setQueue t q x).families = s.families := rfl
@[simp] theorem State.setQueue_rqsInUse (s : State) (t : StationId) (q : Nat) (x : Queue) : (s.setQueue t q x).rqsInUse = s.rqsInUse := rfl
@[simp] theorem State.setQueue_descriptors (s : State) (t : StationId) (q : Nat) (x : Queue) : (s.setQueue t q x).descriptors = s.descriptors := rfl
@[simp] theorem State.setQueue_freeDescriptors (s : State) (t : StationId) (q : Nat) (x : Queue) : (s.setQueue t q x).freeDescriptors = s.freeDescriptors := rfl
@[simp] theorem State.setQueue_freeCells (s : State) (t : StationId) (q : Nat) (x : Queue) : (s.setQueue t q x).freeCells = s.freeCells := rfl
@[simp] theorem State.setQueue_reports (s : State) (t : StationId) (q : Nat) (x : Queue) : (s.setQueue t q x).reports = s.reports := rfl
@[simp] theorem State.setQueue_freeReports (s : State) (t : StationId) (q : Nat) (x : Queue) : (s.setQueue t q x).freeReports = s.freeReports := rfl
@[simp] theorem State.setQueue_heldCells (s : State) (t : StationId) (q : Nat) (x : Queue) : (s.setQueue t q x).heldCells = s.heldCells := rfl
@[simp] theorem State.setQueue_schedulers (s : State) (t : StationId) (q : Nat) (x : Queue) : (s.setQueue t q x).schedulers = s.schedulers := rfl
@[simp] theorem State.setQueue_ports (s : State) (t : StationId) (q : Nat) (x : Queue) : (s.setQueue t q x).ports = s.ports := rfl
@[simp] theorem State.setQueue_sweep (s : State) (t : StationId) (q : Nat) (x : Queue) : (s.setQueue t q x).sweep = s.sweep := rfl
@[simp] theorem State.setQueue_lastTicket (s : State) (t : StationId) (q : Nat) (x : Queue) : (s.setQueue t q x).lastTicket = s.lastTicket := rfl
@[simp] theorem State.setQueue_lastCompleted (s : State) (t : StationId) (q : Nat) (x : Queue) : (s.setQueue t q x).lastCompleted = s.lastCompleted := rfl
@[simp] theorem State.setQueue_stations (s : State) (t : StationId) (q : Nat) (x : Queue) : (s.setQueue t q x).stations = s.stations := rfl
@[simp] theorem State.setQueue_pending (s : State) (t : StationId) (q : Nat) (x : Queue) : (s.setQueue t q x).pending = s.pending := rfl

/-! ### setScheduler -/

@[simp] theorem State.setScheduler_tables (s : State) (t : StationId) (x : Scheduler) : (s.setScheduler t x).tables = s.tables := rfl
@[simp] theorem State.setScheduler_slotsInUse (s : State) (t : StationId) (x : Scheduler) : (s.setScheduler t x).slotsInUse = s.slotsInUse := rfl
@[simp] theorem State.setScheduler_storeUse (s : State) (t : StationId) (x : Scheduler) : (s.setScheduler t x).storeUse = s.storeUse := rfl
@[simp] theorem State.setScheduler_families (s : State) (t : StationId) (x : Scheduler) : (s.setScheduler t x).families = s.families := rfl
@[simp] theorem State.setScheduler_queues (s : State) (t : StationId) (x : Scheduler) : (s.setScheduler t x).queues = s.queues := rfl
@[simp] theorem State.setScheduler_rqsInUse (s : State) (t : StationId) (x : Scheduler) : (s.setScheduler t x).rqsInUse = s.rqsInUse := rfl
@[simp] theorem State.setScheduler_descriptors (s : State) (t : StationId) (x : Scheduler) : (s.setScheduler t x).descriptors = s.descriptors := rfl
@[simp] theorem State.setScheduler_freeDescriptors (s : State) (t : StationId) (x : Scheduler) : (s.setScheduler t x).freeDescriptors = s.freeDescriptors := rfl
@[simp] theorem State.setScheduler_freeCells (s : State) (t : StationId) (x : Scheduler) : (s.setScheduler t x).freeCells = s.freeCells := rfl
@[simp] theorem State.setScheduler_reports (s : State) (t : StationId) (x : Scheduler) : (s.setScheduler t x).reports = s.reports := rfl
@[simp] theorem State.setScheduler_freeReports (s : State) (t : StationId) (x : Scheduler) : (s.setScheduler t x).freeReports = s.freeReports := rfl
@[simp] theorem State.setScheduler_heldCells (s : State) (t : StationId) (x : Scheduler) : (s.setScheduler t x).heldCells = s.heldCells := rfl
@[simp] theorem State.setScheduler_ports (s : State) (t : StationId) (x : Scheduler) : (s.setScheduler t x).ports = s.ports := rfl
@[simp] theorem State.setScheduler_sweep (s : State) (t : StationId) (x : Scheduler) : (s.setScheduler t x).sweep = s.sweep := rfl
@[simp] theorem State.setScheduler_lastTicket (s : State) (t : StationId) (x : Scheduler) : (s.setScheduler t x).lastTicket = s.lastTicket := rfl
@[simp] theorem State.setScheduler_lastCompleted (s : State) (t : StationId) (x : Scheduler) : (s.setScheduler t x).lastCompleted = s.lastCompleted := rfl
@[simp] theorem State.setScheduler_stations (s : State) (t : StationId) (x : Scheduler) : (s.setScheduler t x).stations = s.stations := rfl
@[simp] theorem State.setScheduler_pending (s : State) (t : StationId) (x : Scheduler) : (s.setScheduler t x).pending = s.pending := rfl

/-! ### setDescriptor -/

@[simp] theorem State.setDescriptor_tables (s : State) (d : Nat) (x : Descriptor) : (s.setDescriptor d x).tables = s.tables := rfl
@[simp] theorem State.setDescriptor_slotsInUse (s : State) (d : Nat) (x : Descriptor) : (s.setDescriptor d x).slotsInUse = s.slotsInUse := rfl
@[simp] theorem State.setDescriptor_storeUse (s : State) (d : Nat) (x : Descriptor) : (s.setDescriptor d x).storeUse = s.storeUse := rfl
@[simp] theorem State.setDescriptor_families (s : State) (d : Nat) (x : Descriptor) : (s.setDescriptor d x).families = s.families := rfl
@[simp] theorem State.setDescriptor_queues (s : State) (d : Nat) (x : Descriptor) : (s.setDescriptor d x).queues = s.queues := rfl
@[simp] theorem State.setDescriptor_rqsInUse (s : State) (d : Nat) (x : Descriptor) : (s.setDescriptor d x).rqsInUse = s.rqsInUse := rfl
@[simp] theorem State.setDescriptor_freeDescriptors (s : State) (d : Nat) (x : Descriptor) : (s.setDescriptor d x).freeDescriptors = s.freeDescriptors := rfl
@[simp] theorem State.setDescriptor_freeCells (s : State) (d : Nat) (x : Descriptor) : (s.setDescriptor d x).freeCells = s.freeCells := rfl
@[simp] theorem State.setDescriptor_reports (s : State) (d : Nat) (x : Descriptor) : (s.setDescriptor d x).reports = s.reports := rfl
@[simp] theorem State.setDescriptor_freeReports (s : State) (d : Nat) (x : Descriptor) : (s.setDescriptor d x).freeReports = s.freeReports := rfl
@[simp] theorem State.setDescriptor_heldCells (s : State) (d : Nat) (x : Descriptor) : (s.setDescriptor d x).heldCells = s.heldCells := rfl
@[simp] theorem State.setDescriptor_schedulers (s : State) (d : Nat) (x : Descriptor) : (s.setDescriptor d x).schedulers = s.schedulers := rfl
@[simp] theorem State.setDescriptor_ports (s : State) (d : Nat) (x : Descriptor) : (s.setDescriptor d x).ports = s.ports := rfl
@[simp] theorem State.setDescriptor_sweep (s : State) (d : Nat) (x : Descriptor) : (s.setDescriptor d x).sweep = s.sweep := rfl
@[simp] theorem State.setDescriptor_lastTicket (s : State) (d : Nat) (x : Descriptor) : (s.setDescriptor d x).lastTicket = s.lastTicket := rfl
@[simp] theorem State.setDescriptor_lastCompleted (s : State) (d : Nat) (x : Descriptor) : (s.setDescriptor d x).lastCompleted = s.lastCompleted := rfl
@[simp] theorem State.setDescriptor_stations (s : State) (d : Nat) (x : Descriptor) : (s.setDescriptor d x).stations = s.stations := rfl
@[simp] theorem State.setDescriptor_pending (s : State) (d : Nat) (x : Descriptor) : (s.setDescriptor d x).pending = s.pending := rfl

/-! ### setReport -/

@[simp] theorem State.setReport_tables (s : State) (r : Nat) (x : ReportRecord) : (s.setReport r x).tables = s.tables := rfl
@[simp] theorem State.setReport_slotsInUse (s : State) (r : Nat) (x : ReportRecord) : (s.setReport r x).slotsInUse = s.slotsInUse := rfl
@[simp] theorem State.setReport_storeUse (s : State) (r : Nat) (x : ReportRecord) : (s.setReport r x).storeUse = s.storeUse := rfl
@[simp] theorem State.setReport_families (s : State) (r : Nat) (x : ReportRecord) : (s.setReport r x).families = s.families := rfl
@[simp] theorem State.setReport_queues (s : State) (r : Nat) (x : ReportRecord) : (s.setReport r x).queues = s.queues := rfl
@[simp] theorem State.setReport_rqsInUse (s : State) (r : Nat) (x : ReportRecord) : (s.setReport r x).rqsInUse = s.rqsInUse := rfl
@[simp] theorem State.setReport_descriptors (s : State) (r : Nat) (x : ReportRecord) : (s.setReport r x).descriptors = s.descriptors := rfl
@[simp] theorem State.setReport_freeDescriptors (s : State) (r : Nat) (x : ReportRecord) : (s.setReport r x).freeDescriptors = s.freeDescriptors := rfl
@[simp] theorem State.setReport_freeCells (s : State) (r : Nat) (x : ReportRecord) : (s.setReport r x).freeCells = s.freeCells := rfl
@[simp] theorem State.setReport_freeReports (s : State) (r : Nat) (x : ReportRecord) : (s.setReport r x).freeReports = s.freeReports := rfl
@[simp] theorem State.setReport_heldCells (s : State) (r : Nat) (x : ReportRecord) : (s.setReport r x).heldCells = s.heldCells := rfl
@[simp] theorem State.setReport_schedulers (s : State) (r : Nat) (x : ReportRecord) : (s.setReport r x).schedulers = s.schedulers := rfl
@[simp] theorem State.setReport_ports (s : State) (r : Nat) (x : ReportRecord) : (s.setReport r x).ports = s.ports := rfl
@[simp] theorem State.setReport_sweep (s : State) (r : Nat) (x : ReportRecord) : (s.setReport r x).sweep = s.sweep := rfl
@[simp] theorem State.setReport_lastTicket (s : State) (r : Nat) (x : ReportRecord) : (s.setReport r x).lastTicket = s.lastTicket := rfl
@[simp] theorem State.setReport_lastCompleted (s : State) (r : Nat) (x : ReportRecord) : (s.setReport r x).lastCompleted = s.lastCompleted := rfl
@[simp] theorem State.setReport_stations (s : State) (r : Nat) (x : ReportRecord) : (s.setReport r x).stations = s.stations := rfl
@[simp] theorem State.setReport_pending (s : State) (r : Nat) (x : ReportRecord) : (s.setReport r x).pending = s.pending := rfl

/-! ### writeSlot -/

@[simp] theorem State.writeSlot_slotsInUse (s : State) (t : StationId) (n : Nat) (x : Slot) : (s.writeSlot t n x).slotsInUse = s.slotsInUse := rfl
@[simp] theorem State.writeSlot_storeUse (s : State) (t : StationId) (n : Nat) (x : Slot) : (s.writeSlot t n x).storeUse = s.storeUse := rfl
@[simp] theorem State.writeSlot_families (s : State) (t : StationId) (n : Nat) (x : Slot) : (s.writeSlot t n x).families = s.families := rfl
@[simp] theorem State.writeSlot_queues (s : State) (t : StationId) (n : Nat) (x : Slot) : (s.writeSlot t n x).queues = s.queues := rfl
@[simp] theorem State.writeSlot_rqsInUse (s : State) (t : StationId) (n : Nat) (x : Slot) : (s.writeSlot t n x).rqsInUse = s.rqsInUse := rfl
@[simp] theorem State.writeSlot_descriptors (s : State) (t : StationId) (n : Nat) (x : Slot) : (s.writeSlot t n x).descriptors = s.descriptors := rfl
@[simp] theorem State.writeSlot_freeDescriptors (s : State) (t : StationId) (n : Nat) (x : Slot) : (s.writeSlot t n x).freeDescriptors = s.freeDescriptors := rfl
@[simp] theorem State.writeSlot_freeCells (s : State) (t : StationId) (n : Nat) (x : Slot) : (s.writeSlot t n x).freeCells = s.freeCells := rfl
@[simp] theorem State.writeSlot_reports (s : State) (t : StationId) (n : Nat) (x : Slot) : (s.writeSlot t n x).reports = s.reports := rfl
@[simp] theorem State.writeSlot_freeReports (s : State) (t : StationId) (n : Nat) (x : Slot) : (s.writeSlot t n x).freeReports = s.freeReports := rfl
@[simp] theorem State.writeSlot_heldCells (s : State) (t : StationId) (n : Nat) (x : Slot) : (s.writeSlot t n x).heldCells = s.heldCells := rfl
@[simp] theorem State.writeSlot_schedulers (s : State) (t : StationId) (n : Nat) (x : Slot) : (s.writeSlot t n x).schedulers = s.schedulers := rfl
@[simp] theorem State.writeSlot_ports (s : State) (t : StationId) (n : Nat) (x : Slot) : (s.writeSlot t n x).ports = s.ports := rfl
@[simp] theorem State.writeSlot_sweep (s : State) (t : StationId) (n : Nat) (x : Slot) : (s.writeSlot t n x).sweep = s.sweep := rfl
@[simp] theorem State.writeSlot_lastTicket (s : State) (t : StationId) (n : Nat) (x : Slot) : (s.writeSlot t n x).lastTicket = s.lastTicket := rfl
@[simp] theorem State.writeSlot_lastCompleted (s : State) (t : StationId) (n : Nat) (x : Slot) : (s.writeSlot t n x).lastCompleted = s.lastCompleted := rfl
@[simp] theorem State.writeSlot_stations (s : State) (t : StationId) (n : Nat) (x : Slot) : (s.writeSlot t n x).stations = s.stations := rfl
@[simp] theorem State.writeSlot_pending (s : State) (t : StationId) (n : Nat) (x : Slot) : (s.writeSlot t n x).pending = s.pending := rfl

/-! ### takeSlot -/

@[simp] theorem State.takeSlot_families (s : State) (t : StationId) (n : Nat) (x : Slot) : (s.takeSlot t n x).families = s.families := rfl
@[simp] theorem State.takeSlot_queues (s : State) (t : StationId) (n : Nat) (x : Slot) : (s.takeSlot t n x).queues = s.queues := rfl
@[simp] theorem State.takeSlot_rqsInUse (s : State) (t : StationId) (n : Nat) (x : Slot) : (s.takeSlot t n x).rqsInUse = s.rqsInUse := rfl
@[simp] theorem State.takeSlot_descriptors (s : State) (t : StationId) (n : Nat) (x : Slot) : (s.takeSlot t n x).descriptors = s.descriptors := rfl
@[simp] theorem State.takeSlot_freeDescriptors (s : State) (t : StationId) (n : Nat) (x : Slot) : (s.takeSlot t n x).freeDescriptors = s.freeDescriptors := rfl
@[simp] theorem State.takeSlot_freeCells (s : State) (t : StationId) (n : Nat) (x : Slot) : (s.takeSlot t n x).freeCells = s.freeCells := rfl
@[simp] theorem State.takeSlot_reports (s : State) (t : StationId) (n : Nat) (x : Slot) : (s.takeSlot t n x).reports = s.reports := rfl
@[simp] theorem State.takeSlot_freeReports (s : State) (t : StationId) (n : Nat) (x : Slot) : (s.takeSlot t n x).freeReports = s.freeReports := rfl
@[simp] theorem State.takeSlot_heldCells (s : State) (t : StationId) (n : Nat) (x : Slot) : (s.takeSlot t n x).heldCells = s.heldCells := rfl
@[simp] theorem State.takeSlot_schedulers (s : State) (t : StationId) (n : Nat) (x : Slot) : (s.takeSlot t n x).schedulers = s.schedulers := rfl
@[simp] theorem State.takeSlot_ports (s : State) (t : StationId) (n : Nat) (x : Slot) : (s.takeSlot t n x).ports = s.ports := rfl
@[simp] theorem State.takeSlot_sweep (s : State) (t : StationId) (n : Nat) (x : Slot) : (s.takeSlot t n x).sweep = s.sweep := rfl
@[simp] theorem State.takeSlot_lastTicket (s : State) (t : StationId) (n : Nat) (x : Slot) : (s.takeSlot t n x).lastTicket = s.lastTicket := rfl
@[simp] theorem State.takeSlot_lastCompleted (s : State) (t : StationId) (n : Nat) (x : Slot) : (s.takeSlot t n x).lastCompleted = s.lastCompleted := rfl
@[simp] theorem State.takeSlot_stations (s : State) (t : StationId) (n : Nat) (x : Slot) : (s.takeSlot t n x).stations = s.stations := rfl
@[simp] theorem State.takeSlot_pending (s : State) (t : StationId) (n : Nat) (x : Slot) : (s.takeSlot t n x).pending = s.pending := rfl

/-! ### vacateSlot -/

@[simp] theorem State.vacateSlot_families (s : State) (t : StationId) (n : Nat) : (s.vacateSlot t n).families = s.families := rfl
@[simp] theorem State.vacateSlot_queues (s : State) (t : StationId) (n : Nat) : (s.vacateSlot t n).queues = s.queues := rfl
@[simp] theorem State.vacateSlot_rqsInUse (s : State) (t : StationId) (n : Nat) : (s.vacateSlot t n).rqsInUse = s.rqsInUse := rfl
@[simp] theorem State.vacateSlot_descriptors (s : State) (t : StationId) (n : Nat) : (s.vacateSlot t n).descriptors = s.descriptors := rfl
@[simp] theorem State.vacateSlot_freeDescriptors (s : State) (t : StationId) (n : Nat) : (s.vacateSlot t n).freeDescriptors = s.freeDescriptors := rfl
@[simp] theorem State.vacateSlot_freeCells (s : State) (t : StationId) (n : Nat) : (s.vacateSlot t n).freeCells = s.freeCells := rfl
@[simp] theorem State.vacateSlot_reports (s : State) (t : StationId) (n : Nat) : (s.vacateSlot t n).reports = s.reports := rfl
@[simp] theorem State.vacateSlot_freeReports (s : State) (t : StationId) (n : Nat) : (s.vacateSlot t n).freeReports = s.freeReports := rfl
@[simp] theorem State.vacateSlot_heldCells (s : State) (t : StationId) (n : Nat) : (s.vacateSlot t n).heldCells = s.heldCells := rfl
@[simp] theorem State.vacateSlot_schedulers (s : State) (t : StationId) (n : Nat) : (s.vacateSlot t n).schedulers = s.schedulers := rfl
@[simp] theorem State.vacateSlot_ports (s : State) (t : StationId) (n : Nat) : (s.vacateSlot t n).ports = s.ports := rfl
@[simp] theorem State.vacateSlot_sweep (s : State) (t : StationId) (n : Nat) : (s.vacateSlot t n).sweep = s.sweep := rfl
@[simp] theorem State.vacateSlot_lastTicket (s : State) (t : StationId) (n : Nat) : (s.vacateSlot t n).lastTicket = s.lastTicket := rfl
@[simp] theorem State.vacateSlot_lastCompleted (s : State) (t : StationId) (n : Nat) : (s.vacateSlot t n).lastCompleted = s.lastCompleted := rfl
@[simp] theorem State.vacateSlot_stations (s : State) (t : StationId) (n : Nat) : (s.vacateSlot t n).stations = s.stations := rfl
@[simp] theorem State.vacateSlot_pending (s : State) (t : StationId) (n : Nat) : (s.vacateSlot t n).pending = s.pending := rfl

/-! ### joinActive -/

@[simp] theorem State.joinActive_tables (s : State) (t : StationId) (b : Band) (q : Nat) : (s.joinActive t b q).tables = s.tables := rfl
@[simp] theorem State.joinActive_slotsInUse (s : State) (t : StationId) (b : Band) (q : Nat) : (s.joinActive t b q).slotsInUse = s.slotsInUse := rfl
@[simp] theorem State.joinActive_storeUse (s : State) (t : StationId) (b : Band) (q : Nat) : (s.joinActive t b q).storeUse = s.storeUse := rfl
@[simp] theorem State.joinActive_families (s : State) (t : StationId) (b : Band) (q : Nat) : (s.joinActive t b q).families = s.families := rfl
@[simp] theorem State.joinActive_queues (s : State) (t : StationId) (b : Band) (q : Nat) : (s.joinActive t b q).queues = s.queues := rfl
@[simp] theorem State.joinActive_rqsInUse (s : State) (t : StationId) (b : Band) (q : Nat) : (s.joinActive t b q).rqsInUse = s.rqsInUse := rfl
@[simp] theorem State.joinActive_descriptors (s : State) (t : StationId) (b : Band) (q : Nat) : (s.joinActive t b q).descriptors = s.descriptors := rfl
@[simp] theorem State.joinActive_freeDescriptors (s : State) (t : StationId) (b : Band) (q : Nat) : (s.joinActive t b q).freeDescriptors = s.freeDescriptors := rfl
@[simp] theorem State.joinActive_freeCells (s : State) (t : StationId) (b : Band) (q : Nat) : (s.joinActive t b q).freeCells = s.freeCells := rfl
@[simp] theorem State.joinActive_reports (s : State) (t : StationId) (b : Band) (q : Nat) : (s.joinActive t b q).reports = s.reports := rfl
@[simp] theorem State.joinActive_freeReports (s : State) (t : StationId) (b : Band) (q : Nat) : (s.joinActive t b q).freeReports = s.freeReports := rfl
@[simp] theorem State.joinActive_heldCells (s : State) (t : StationId) (b : Band) (q : Nat) : (s.joinActive t b q).heldCells = s.heldCells := rfl
@[simp] theorem State.joinActive_ports (s : State) (t : StationId) (b : Band) (q : Nat) : (s.joinActive t b q).ports = s.ports := rfl
@[simp] theorem State.joinActive_sweep (s : State) (t : StationId) (b : Band) (q : Nat) : (s.joinActive t b q).sweep = s.sweep := rfl
@[simp] theorem State.joinActive_lastTicket (s : State) (t : StationId) (b : Band) (q : Nat) : (s.joinActive t b q).lastTicket = s.lastTicket := rfl
@[simp] theorem State.joinActive_lastCompleted (s : State) (t : StationId) (b : Band) (q : Nat) : (s.joinActive t b q).lastCompleted = s.lastCompleted := rfl
@[simp] theorem State.joinActive_stations (s : State) (t : StationId) (b : Band) (q : Nat) : (s.joinActive t b q).stations = s.stations := rfl
@[simp] theorem State.joinActive_pending (s : State) (t : StationId) (b : Band) (q : Nat) : (s.joinActive t b q).pending = s.pending := rfl

/-! ### leaveActive -/

@[simp] theorem State.leaveActive_tables (s : State) (t : StationId) (b : Band) (q : Nat) : (s.leaveActive t b q).tables = s.tables := rfl
@[simp] theorem State.leaveActive_slotsInUse (s : State) (t : StationId) (b : Band) (q : Nat) : (s.leaveActive t b q).slotsInUse = s.slotsInUse := rfl
@[simp] theorem State.leaveActive_storeUse (s : State) (t : StationId) (b : Band) (q : Nat) : (s.leaveActive t b q).storeUse = s.storeUse := rfl
@[simp] theorem State.leaveActive_families (s : State) (t : StationId) (b : Band) (q : Nat) : (s.leaveActive t b q).families = s.families := rfl
@[simp] theorem State.leaveActive_queues (s : State) (t : StationId) (b : Band) (q : Nat) : (s.leaveActive t b q).queues = s.queues := rfl
@[simp] theorem State.leaveActive_rqsInUse (s : State) (t : StationId) (b : Band) (q : Nat) : (s.leaveActive t b q).rqsInUse = s.rqsInUse := rfl
@[simp] theorem State.leaveActive_descriptors (s : State) (t : StationId) (b : Band) (q : Nat) : (s.leaveActive t b q).descriptors = s.descriptors := rfl
@[simp] theorem State.leaveActive_freeDescriptors (s : State) (t : StationId) (b : Band) (q : Nat) : (s.leaveActive t b q).freeDescriptors = s.freeDescriptors := rfl
@[simp] theorem State.leaveActive_freeCells (s : State) (t : StationId) (b : Band) (q : Nat) : (s.leaveActive t b q).freeCells = s.freeCells := rfl
@[simp] theorem State.leaveActive_reports (s : State) (t : StationId) (b : Band) (q : Nat) : (s.leaveActive t b q).reports = s.reports := rfl
@[simp] theorem State.leaveActive_freeReports (s : State) (t : StationId) (b : Band) (q : Nat) : (s.leaveActive t b q).freeReports = s.freeReports := rfl
@[simp] theorem State.leaveActive_heldCells (s : State) (t : StationId) (b : Band) (q : Nat) : (s.leaveActive t b q).heldCells = s.heldCells := rfl
@[simp] theorem State.leaveActive_ports (s : State) (t : StationId) (b : Band) (q : Nat) : (s.leaveActive t b q).ports = s.ports := rfl
@[simp] theorem State.leaveActive_sweep (s : State) (t : StationId) (b : Band) (q : Nat) : (s.leaveActive t b q).sweep = s.sweep := rfl
@[simp] theorem State.leaveActive_lastTicket (s : State) (t : StationId) (b : Band) (q : Nat) : (s.leaveActive t b q).lastTicket = s.lastTicket := rfl
@[simp] theorem State.leaveActive_lastCompleted (s : State) (t : StationId) (b : Band) (q : Nat) : (s.leaveActive t b q).lastCompleted = s.lastCompleted := rfl
@[simp] theorem State.leaveActive_stations (s : State) (t : StationId) (b : Band) (q : Nat) : (s.leaveActive t b q).stations = s.stations := rfl
@[simp] theorem State.leaveActive_pending (s : State) (t : StationId) (b : Band) (q : Nat) : (s.leaveActive t b q).pending = s.pending := rfl

/-! ### revokeFamilies -/

@[simp] theorem State.revokeFamilies_tables (s : State) (test : Family → Bool) : (s.revokeFamilies test).tables = s.tables := rfl
@[simp] theorem State.revokeFamilies_slotsInUse (s : State) (test : Family → Bool) : (s.revokeFamilies test).slotsInUse = s.slotsInUse := rfl
@[simp] theorem State.revokeFamilies_storeUse (s : State) (test : Family → Bool) : (s.revokeFamilies test).storeUse = s.storeUse := rfl
@[simp] theorem State.revokeFamilies_queues (s : State) (test : Family → Bool) : (s.revokeFamilies test).queues = s.queues := rfl
@[simp] theorem State.revokeFamilies_rqsInUse (s : State) (test : Family → Bool) : (s.revokeFamilies test).rqsInUse = s.rqsInUse := rfl
@[simp] theorem State.revokeFamilies_descriptors (s : State) (test : Family → Bool) : (s.revokeFamilies test).descriptors = s.descriptors := rfl
@[simp] theorem State.revokeFamilies_freeDescriptors (s : State) (test : Family → Bool) : (s.revokeFamilies test).freeDescriptors = s.freeDescriptors := rfl
@[simp] theorem State.revokeFamilies_freeCells (s : State) (test : Family → Bool) : (s.revokeFamilies test).freeCells = s.freeCells := rfl
@[simp] theorem State.revokeFamilies_reports (s : State) (test : Family → Bool) : (s.revokeFamilies test).reports = s.reports := rfl
@[simp] theorem State.revokeFamilies_freeReports (s : State) (test : Family → Bool) : (s.revokeFamilies test).freeReports = s.freeReports := rfl
@[simp] theorem State.revokeFamilies_heldCells (s : State) (test : Family → Bool) : (s.revokeFamilies test).heldCells = s.heldCells := rfl
@[simp] theorem State.revokeFamilies_schedulers (s : State) (test : Family → Bool) : (s.revokeFamilies test).schedulers = s.schedulers := rfl
@[simp] theorem State.revokeFamilies_ports (s : State) (test : Family → Bool) : (s.revokeFamilies test).ports = s.ports := rfl
@[simp] theorem State.revokeFamilies_sweep (s : State) (test : Family → Bool) : (s.revokeFamilies test).sweep = s.sweep := rfl
@[simp] theorem State.revokeFamilies_lastTicket (s : State) (test : Family → Bool) : (s.revokeFamilies test).lastTicket = s.lastTicket := rfl
@[simp] theorem State.revokeFamilies_lastCompleted (s : State) (test : Family → Bool) : (s.revokeFamilies test).lastCompleted = s.lastCompleted := rfl
@[simp] theorem State.revokeFamilies_stations (s : State) (test : Family → Bool) : (s.revokeFamilies test).stations = s.stations := rfl
@[simp] theorem State.revokeFamilies_pending (s : State) (test : Family → Bool) : (s.revokeFamilies test).pending = s.pending := rfl

/-! ### tick -/

@[simp] theorem State.tick_tables (s : State) : (s.tick).tables = s.tables := rfl
@[simp] theorem State.tick_slotsInUse (s : State) : (s.tick).slotsInUse = s.slotsInUse := rfl
@[simp] theorem State.tick_storeUse (s : State) : (s.tick).storeUse = s.storeUse := rfl
@[simp] theorem State.tick_families (s : State) : (s.tick).families = s.families := rfl
@[simp] theorem State.tick_queues (s : State) : (s.tick).queues = s.queues := rfl
@[simp] theorem State.tick_rqsInUse (s : State) : (s.tick).rqsInUse = s.rqsInUse := rfl
@[simp] theorem State.tick_descriptors (s : State) : (s.tick).descriptors = s.descriptors := rfl
@[simp] theorem State.tick_freeDescriptors (s : State) : (s.tick).freeDescriptors = s.freeDescriptors := rfl
@[simp] theorem State.tick_freeCells (s : State) : (s.tick).freeCells = s.freeCells := rfl
@[simp] theorem State.tick_reports (s : State) : (s.tick).reports = s.reports := rfl
@[simp] theorem State.tick_freeReports (s : State) : (s.tick).freeReports = s.freeReports := rfl
@[simp] theorem State.tick_heldCells (s : State) : (s.tick).heldCells = s.heldCells := rfl
@[simp] theorem State.tick_schedulers (s : State) : (s.tick).schedulers = s.schedulers := rfl
@[simp] theorem State.tick_sweep (s : State) : (s.tick).sweep = s.sweep := rfl
@[simp] theorem State.tick_lastTicket (s : State) : (s.tick).lastTicket = s.lastTicket := rfl
@[simp] theorem State.tick_lastCompleted (s : State) : (s.tick).lastCompleted = s.lastCompleted := rfl
@[simp] theorem State.tick_stations (s : State) : (s.tick).stations = s.stations := rfl
@[simp] theorem State.tick_pending (s : State) : (s.tick).pending = s.pending := rfl

/-! ### The changed fields -/

@[simp] theorem State.setPort_ports (s : State) (p : PortId) (x : PortLink) :
    (s.setPort p x).ports = Bank.set s.ports p x := rfl
@[simp] theorem State.setWindow_ports (s : State) (p : PortId) (w : Window) :
    (s.setWindow p w).ports = Bank.set s.ports p { s.port p with window := w } := rfl
@[simp] theorem State.setStation_stations (s : State) (t : StationId) (x : Station) :
    (s.setStation t x).stations = Bank.set s.stations t x := rfl
@[simp] theorem State.setFamily_families (s : State) (f : Nat) (x : Family) :
    (s.setFamily f x).families = Table.put s.families f x := rfl
@[simp] theorem State.setQueue_queues (s : State) (t : StationId) (q : Nat) (x : Queue) :
    (s.setQueue t q x).queues = Bank.set s.queues t (Table.put (Bank.get s.queues t) q x) := rfl
@[simp] theorem State.setScheduler_schedulers (s : State) (t : StationId) (x : Scheduler) :
    (s.setScheduler t x).schedulers = Bank.set s.schedulers t x := rfl
@[simp] theorem State.setDescriptor_descriptors (s : State) (d : Nat) (x : Descriptor) :
    (s.setDescriptor d x).descriptors = Table.put s.descriptors d x := rfl
@[simp] theorem State.setReport_reports (s : State) (r : Nat) (x : ReportRecord) :
    (s.setReport r x).reports = Table.put s.reports r x := rfl
@[simp] theorem State.writeSlot_tables (s : State) (t : StationId) (n : Nat) (x : Slot) :
    (s.writeSlot t n x).tables = Bank.set s.tables t (Table.put (Bank.get s.tables t) n x) := rfl
@[simp] theorem State.takeSlot_tables (s : State) (t : StationId) (n : Nat) (x : Slot) :
    (s.takeSlot t n x).tables = Bank.set s.tables t (Table.put (Bank.get s.tables t) n x) := rfl
@[simp] theorem State.takeSlot_slotsInUse (s : State) (t : StationId) (n : Nat) (x : Slot) :
    (s.takeSlot t n x).slotsInUse = Bank.set s.slotsInUse t (Bank.get s.slotsInUse t + 1) := rfl
@[simp] theorem State.takeSlot_storeUse (s : State) (t : StationId) (n : Nat) (x : Slot) :
    (s.takeSlot t n x).storeUse = s.storeUse + 1 := rfl
@[simp] theorem State.vacateSlot_tables (s : State) (t : StationId) (n : Nat) :
    (s.vacateSlot t n).tables = Bank.set s.tables t (Table.erase (Bank.get s.tables t) n) := rfl
@[simp] theorem State.vacateSlot_slotsInUse (s : State) (t : StationId) (n : Nat) :
    (s.vacateSlot t n).slotsInUse = Bank.set s.slotsInUse t (Bank.get s.slotsInUse t - 1) := rfl
@[simp] theorem State.vacateSlot_storeUse (s : State) (t : StationId) (n : Nat) :
    (s.vacateSlot t n).storeUse = s.storeUse - 1 := rfl
@[simp] theorem State.tick_ports (s : State) : s.tick.ports = Bank.mapIdx s.ports (fun _ x => x.tick) := rfl

/-! ### Reading after writing -/

theorem State.port_setPort (s : State) (p q : PortId) (x : PortLink) :
    (s.setPort p x).port q = if q = p then x else s.port q := Bank.get_set ..
@[simp] theorem State.port_setPort_self (s : State) (p : PortId) (x : PortLink) : (s.setPort p x).port p = x :=
  Bank.get_set_self ..
theorem State.port_setWindow (s : State) (p q : PortId) (w : Window) :
    (s.setWindow p w).port q = if q = p then { s.port p with window := w } else s.port q := Bank.get_set ..
@[simp] theorem State.window_setWindow_self (s : State) (p : PortId) (w : Window) : (s.setWindow p w).window p = w := by
  simp [State.window, State.setWindow]
@[simp] theorem State.setPort_setPort (s : State) (p : PortId) (x y : PortLink) :
    (s.setPort p x).setPort p y = s.setPort p y := by
  simp [State.setPort]
@[simp] theorem State.setPort_port_self (s : State) (p : PortId) : s.setPort p (s.port p) = s := by
  simp [State.setPort, State.port]

theorem State.station_setStation (s : State) (t u : StationId) (x : Station) :
    (s.setStation t x).station u = if u = t then x else s.station u := Bank.get_set ..
@[simp] theorem State.station_setStation_self (s : State) (t : StationId) (x : Station) :
    (s.setStation t x).station t = x := Bank.get_set_self ..

theorem State.scheduler_setScheduler (s : State) (t u : StationId) (x : Scheduler) :
    (s.setScheduler t x).scheduler u = if u = t then x else s.scheduler u := Bank.get_set ..
@[simp] theorem State.scheduler_setScheduler_self (s : State) (t : StationId) (x : Scheduler) :
    (s.setScheduler t x).scheduler t = x := Bank.get_set_self ..

theorem State.family_setFamily (s : State) (f g : Nat) (x : Family) :
    (s.setFamily f x).family g = if g = f then some x else s.family g := Table.find_put ..
@[simp] theorem State.family_setFamily_self (s : State) (f : Nat) (x : Family) : (s.setFamily f x).family f = some x :=
  Table.find_put_self ..

theorem State.descriptor_setDescriptor (s : State) (d e : Nat) (x : Descriptor) :
    (s.setDescriptor d x).descriptor e = if e = d then some x else s.descriptor e := Table.find_put ..
@[simp] theorem State.descriptor_setDescriptor_self (s : State) (d : Nat) (x : Descriptor) :
    (s.setDescriptor d x).descriptor d = some x := Table.find_put_self ..

theorem State.report_setReport (s : State) (r e : Nat) (x : ReportRecord) :
    (s.setReport r x).report e = if e = r then some x else s.report e := Table.find_put ..
@[simp] theorem State.report_setReport_self (s : State) (r : Nat) (x : ReportRecord) :
    (s.setReport r x).report r = some x := Table.find_put_self ..

theorem State.queue_setQueue (s : State) (t u : StationId) (q r : Nat) (x : Queue) :
    (s.setQueue t q x).queue u r = if u = t ∧ r = q then some x else s.queue u r := by
  by_cases h : u = t
  · subst h
    simp [State.queue, State.setQueue, Table.find_put]
  · simp [State.queue, State.setQueue, Bank.get_set, h]
@[simp] theorem State.queue_setQueue_self (s : State) (t : StationId) (q : Nat) (x : Queue) :
    (s.setQueue t q x).queue t q = some x := by
  simp [State.queue_setQueue]

theorem State.slot_writeSlot (s : State) (t u : StationId) (n m : Nat) (x : Slot) :
    (s.writeSlot t n x).slot u m = if u = t ∧ m = n then some x else s.slot u m := by
  by_cases h : u = t
  · subst h
    simp [State.slot, State.table, State.writeSlot, Table.find_put]
  · simp [State.slot, State.table, State.writeSlot, Bank.get_set, h]
theorem State.slot_takeSlot (s : State) (t u : StationId) (n m : Nat) (x : Slot) :
    (s.takeSlot t n x).slot u m = if u = t ∧ m = n then some x else s.slot u m :=
  State.slot_writeSlot s t u n m x
theorem State.slot_vacateSlot (s : State) (t u : StationId) (n m : Nat)
    (h : Table.canonical (Bank.get s.tables t) = true) :
    (s.vacateSlot t n).slot u m = if u = t ∧ m = n then none else s.slot u m := by
  by_cases e : u = t
  · subst e
    simp [State.slot, State.table, State.vacateSlot, Table.find_erase _ _ _ h]
  · simp [State.slot, State.table, State.vacateSlot, Bank.get_set, e]

theorem State.family_revokeFamilies (s : State) (test : Family → Bool) (f : Nat) :
    (s.revokeFamilies test).family f =
      (s.family f).map (fun x => if x.state == .opened && test x then { x with state := .revoking } else x) :=
  by simp [State.family, State.revokeFamilies, Table.find_mapRecords]

/-! ### Rights, counts and lists of three and four -/

@[simp] theorem DrrCounts.get_set_self (c : DrrCounts) (b : DrrBand) (n : Nat) : (c.set b n).get b = n := by
  cases b <;> rfl
theorem DrrCounts.get_set_ne (c : DrrCounts) {b d : DrrBand} (n : Nat) (h : d ≠ b) : (c.set b n).get d = c.get d := by
  cases b <;> cases d <;> first | rfl | exact absurd rfl h
@[simp] theorem ActiveLists.get_set_self (a : ActiveLists) (b : Band) (l : List Nat) : (a.set b l).get b = l := by
  cases b <;> rfl
theorem ActiveLists.get_set_ne (a : ActiveLists) {b d : Band} (l : List Nat) (h : d ≠ b) :
    (a.set b l).get d = a.get d := by
  cases b <;> cases d <;> first | rfl | exact absurd rfl h

/-! ### State.reset -/

@[simp] theorem State.reset_pending : State.reset.pending = [] := rfl
@[simp] theorem State.reset_port (p : PortId) : State.reset.port p = PortLink.reset := by
  simp [State.port, State.reset]
@[simp] theorem State.reset_scheduler (t : StationId) : State.reset.scheduler t = Scheduler.reset := by
  simp [State.scheduler, State.reset]
@[simp] theorem State.reset_slot (t : StationId) (n : Nat) : State.reset.slot t n = none := by
  simp [State.slot, State.table, State.reset]
@[simp] theorem State.reset_family (f : Nat) : State.reset.family f = none := rfl

end Sys2Proof.Machine
end

