-- ==== Sys2Proof/Laws/Ops.lean ====
section
/-! SUPPORT. What the shared operations leave alone: none of the operations on the stores touches the ports, the Sweep
Unit or the commands that wait, and each says in one lemma what it can do. -/

namespace Sys2Proof.Machine

/-! ### placeReport -/

@[simp] theorem State.placeReport_ports (s : State) (t : StationId) (q : Queue) (c : ReportContent) : (s.placeReport t q c).ports = s.ports := by
  unfold State.placeReport; repeat' (first | split | simp)
@[simp] theorem State.placeReport_sweep (s : State) (t : StationId) (q : Queue) (c : ReportContent) : (s.placeReport t q c).sweep = s.sweep := by
  unfold State.placeReport; repeat' (first | split | simp)
@[simp] theorem State.placeReport_lastTicket (s : State) (t : StationId) (q : Queue) (c : ReportContent) : (s.placeReport t q c).lastTicket = s.lastTicket := by
  unfold State.placeReport; repeat' (first | split | simp)
@[simp] theorem State.placeReport_lastCompleted (s : State) (t : StationId) (q : Queue) (c : ReportContent) : (s.placeReport t q c).lastCompleted = s.lastCompleted := by
  unfold State.placeReport; repeat' (first | split | simp)
@[simp] theorem State.placeReport_pending (s : State) (t : StationId) (q : Queue) (c : ReportContent) : (s.placeReport t q c).pending = s.pending := by
  unfold State.placeReport; repeat' (first | split | simp)

/-! ### missReport -/

@[simp] theorem State.missReport_ports (s : State) (t : StationId) : (s.missReport t).ports = s.ports := by
  unfold State.missReport; repeat' (first | split | simp)
@[simp] theorem State.missReport_sweep (s : State) (t : StationId) : (s.missReport t).sweep = s.sweep := by
  unfold State.missReport; repeat' (first | split | simp)
@[simp] theorem State.missReport_lastTicket (s : State) (t : StationId) : (s.missReport t).lastTicket = s.lastTicket := by
  unfold State.missReport; repeat' (first | split | simp)
@[simp] theorem State.missReport_lastCompleted (s : State) (t : StationId) : (s.missReport t).lastCompleted = s.lastCompleted := by
  unfold State.missReport; repeat' (first | split | simp)
@[simp] theorem State.missReport_pending (s : State) (t : StationId) : (s.missReport t).pending = s.pending := by
  unfold State.missReport; repeat' (first | split | simp)

/-! ### callReport -/

@[simp] theorem State.callReport_ports (s : State) (t : StationId) (c : ReportContent) : (s.callReport t c).ports = s.ports := by
  unfold State.callReport; repeat' (first | split | simp)
@[simp] theorem State.callReport_sweep (s : State) (t : StationId) (c : ReportContent) : (s.callReport t c).sweep = s.sweep := by
  unfold State.callReport; repeat' (first | split | simp)
@[simp] theorem State.callReport_lastTicket (s : State) (t : StationId) (c : ReportContent) : (s.callReport t c).lastTicket = s.lastTicket := by
  unfold State.callReport; repeat' (first | split | simp)
@[simp] theorem State.callReport_lastCompleted (s : State) (t : StationId) (c : ReportContent) : (s.callReport t c).lastCompleted = s.lastCompleted := by
  unfold State.callReport; repeat' (first | split | simp)
@[simp] theorem State.callReport_pending (s : State) (t : StationId) (c : ReportContent) : (s.callReport t c).pending = s.pending := by
  unfold State.callReport; repeat' (first | split | simp)

/-! ### closeFamily -/

@[simp] theorem State.closeFamily_ports (s : State) (f : Nat) (x : Family) : (s.closeFamily f x).ports = s.ports := by
  unfold State.closeFamily; repeat' (first | split | simp)
@[simp] theorem State.closeFamily_sweep (s : State) (f : Nat) (x : Family) : (s.closeFamily f x).sweep = s.sweep := by
  unfold State.closeFamily; repeat' (first | split | simp)
@[simp] theorem State.closeFamily_lastTicket (s : State) (f : Nat) (x : Family) : (s.closeFamily f x).lastTicket = s.lastTicket := by
  unfold State.closeFamily; repeat' (first | split | simp)
@[simp] theorem State.closeFamily_lastCompleted (s : State) (f : Nat) (x : Family) : (s.closeFamily f x).lastCompleted = s.lastCompleted := by
  unfold State.closeFamily; repeat' (first | split | simp)
@[simp] theorem State.closeFamily_pending (s : State) (f : Nat) (x : Family) : (s.closeFamily f x).pending = s.pending := by
  unfold State.closeFamily; repeat' (first | split | simp)

/-! ### lowerLive -/

@[simp] theorem State.lowerLive_ports (s : State) (f : Nat) : (s.lowerLive f).ports = s.ports := by
  unfold State.lowerLive; repeat' (first | split | simp)
@[simp] theorem State.lowerLive_sweep (s : State) (f : Nat) : (s.lowerLive f).sweep = s.sweep := by
  unfold State.lowerLive; repeat' (first | split | simp)
@[simp] theorem State.lowerLive_lastTicket (s : State) (f : Nat) : (s.lowerLive f).lastTicket = s.lastTicket := by
  unfold State.lowerLive; repeat' (first | split | simp)
@[simp] theorem State.lowerLive_lastCompleted (s : State) (f : Nat) : (s.lowerLive f).lastCompleted = s.lastCompleted := by
  unfold State.lowerLive; repeat' (first | split | simp)
@[simp] theorem State.lowerLive_pending (s : State) (f : Nat) : (s.lowerLive f).pending = s.pending := by
  unfold State.lowerLive; repeat' (first | split | simp)

/-! ### raiseLive -/

@[simp] theorem State.raiseLive_ports (s : State) (f : Nat) : (s.raiseLive f).ports = s.ports := by
  unfold State.raiseLive; repeat' (first | split | simp)
@[simp] theorem State.raiseLive_sweep (s : State) (f : Nat) : (s.raiseLive f).sweep = s.sweep := by
  unfold State.raiseLive; repeat' (first | split | simp)
@[simp] theorem State.raiseLive_lastTicket (s : State) (f : Nat) : (s.raiseLive f).lastTicket = s.lastTicket := by
  unfold State.raiseLive; repeat' (first | split | simp)
@[simp] theorem State.raiseLive_lastCompleted (s : State) (f : Nat) : (s.raiseLive f).lastCompleted = s.lastCompleted := by
  unfold State.raiseLive; repeat' (first | split | simp)
@[simp] theorem State.raiseLive_pending (s : State) (f : Nat) : (s.raiseLive f).pending = s.pending := by
  unfold State.raiseLive; repeat' (first | split | simp)

/-! ### freeSlot -/

@[simp] theorem State.freeSlot_ports (s : State) (t : StationId) (n : Nat) (x : Slot) : (s.freeSlot t n x).ports = s.ports := by
  unfold State.freeSlot; repeat' (first | split | simp)
@[simp] theorem State.freeSlot_sweep (s : State) (t : StationId) (n : Nat) (x : Slot) : (s.freeSlot t n x).sweep = s.sweep := by
  unfold State.freeSlot; repeat' (first | split | simp)
@[simp] theorem State.freeSlot_lastTicket (s : State) (t : StationId) (n : Nat) (x : Slot) : (s.freeSlot t n x).lastTicket = s.lastTicket := by
  unfold State.freeSlot; repeat' (first | split | simp)
@[simp] theorem State.freeSlot_lastCompleted (s : State) (t : StationId) (n : Nat) (x : Slot) : (s.freeSlot t n x).lastCompleted = s.lastCompleted := by
  unfold State.freeSlot; repeat' (first | split | simp)
@[simp] theorem State.freeSlot_pending (s : State) (t : StationId) (n : Nat) (x : Slot) : (s.freeSlot t n x).pending = s.pending := by
  unfold State.freeSlot; repeat' (first | split | simp)

/-! ### definitionClaim -/

@[simp] theorem State.definitionClaim_ports (s : State) (t : StationId) (n d : Nat) : (s.definitionClaim t n d).ports = s.ports := by
  unfold State.definitionClaim; repeat' (first | split | simp)
@[simp] theorem State.definitionClaim_sweep (s : State) (t : StationId) (n d : Nat) : (s.definitionClaim t n d).sweep = s.sweep := by
  unfold State.definitionClaim; repeat' (first | split | simp)
@[simp] theorem State.definitionClaim_lastTicket (s : State) (t : StationId) (n d : Nat) : (s.definitionClaim t n d).lastTicket = s.lastTicket := by
  unfold State.definitionClaim; repeat' (first | split | simp)
@[simp] theorem State.definitionClaim_lastCompleted (s : State) (t : StationId) (n d : Nat) : (s.definitionClaim t n d).lastCompleted = s.lastCompleted := by
  unfold State.definitionClaim; repeat' (first | split | simp)
@[simp] theorem State.definitionClaim_pending (s : State) (t : StationId) (n d : Nat) : (s.definitionClaim t n d).pending = s.pending := by
  unfold State.definitionClaim; repeat' (first | split | simp)

/-! ### freeReserved -/

@[simp] theorem State.freeReserved_ports (s : State) (t : StationId) (n d : Nat) : (s.freeReserved t n d).ports = s.ports := by
  unfold State.freeReserved; repeat' (first | split | simp)
@[simp] theorem State.freeReserved_sweep (s : State) (t : StationId) (n d : Nat) : (s.freeReserved t n d).sweep = s.sweep := by
  unfold State.freeReserved; repeat' (first | split | simp)
@[simp] theorem State.freeReserved_lastTicket (s : State) (t : StationId) (n d : Nat) : (s.freeReserved t n d).lastTicket = s.lastTicket := by
  unfold State.freeReserved; repeat' (first | split | simp)
@[simp] theorem State.freeReserved_lastCompleted (s : State) (t : StationId) (n d : Nat) : (s.freeReserved t n d).lastCompleted = s.lastCompleted := by
  unfold State.freeReserved; repeat' (first | split | simp)
@[simp] theorem State.freeReserved_pending (s : State) (t : StationId) (n d : Nat) : (s.freeReserved t n d).pending = s.pending := by
  unfold State.freeReserved; repeat' (first | split | simp)

/-! ### voidReserved -/

@[simp] theorem State.voidReserved_ports (s : State) (d n : Nat) : (s.voidReserved d n).ports = s.ports := by
  unfold State.voidReserved; repeat' (first | split | simp)
@[simp] theorem State.voidReserved_sweep (s : State) (d n : Nat) : (s.voidReserved d n).sweep = s.sweep := by
  unfold State.voidReserved; repeat' (first | split | simp)
@[simp] theorem State.voidReserved_lastTicket (s : State) (d n : Nat) : (s.voidReserved d n).lastTicket = s.lastTicket := by
  unfold State.voidReserved; repeat' (first | split | simp)
@[simp] theorem State.voidReserved_lastCompleted (s : State) (d n : Nat) : (s.voidReserved d n).lastCompleted = s.lastCompleted := by
  unfold State.voidReserved; repeat' (first | split | simp)
@[simp] theorem State.voidReserved_pending (s : State) (d n : Nat) : (s.voidReserved d n).pending = s.pending := by
  unfold State.voidReserved; repeat' (first | split | simp)

/-! ### dropQueue -/

@[simp] theorem State.dropQueue_ports (s : State) (t : StationId) (q : Nat) : (s.dropQueue t q).ports = s.ports := by
  unfold State.dropQueue; repeat' (first | split | simp)
@[simp] theorem State.dropQueue_sweep (s : State) (t : StationId) (q : Nat) : (s.dropQueue t q).sweep = s.sweep := by
  unfold State.dropQueue; repeat' (first | split | simp)
@[simp] theorem State.dropQueue_lastTicket (s : State) (t : StationId) (q : Nat) : (s.dropQueue t q).lastTicket = s.lastTicket := by
  unfold State.dropQueue; repeat' (first | split | simp)
@[simp] theorem State.dropQueue_lastCompleted (s : State) (t : StationId) (q : Nat) : (s.dropQueue t q).lastCompleted = s.lastCompleted := by
  unfold State.dropQueue; repeat' (first | split | simp)
@[simp] theorem State.dropQueue_pending (s : State) (t : StationId) (q : Nat) : (s.dropQueue t q).pending = s.pending := by
  unfold State.dropQueue; repeat' (first | split | simp)

/-! ### settleQueue -/

@[simp] theorem State.settleQueue_ports (s : State) (t : StationId) (q : Nat) : (s.settleQueue t q).ports = s.ports := by
  unfold State.settleQueue; repeat' (first | split | simp)
@[simp] theorem State.settleQueue_sweep (s : State) (t : StationId) (q : Nat) : (s.settleQueue t q).sweep = s.sweep := by
  unfold State.settleQueue; repeat' (first | split | simp)
@[simp] theorem State.settleQueue_lastTicket (s : State) (t : StationId) (q : Nat) : (s.settleQueue t q).lastTicket = s.lastTicket := by
  unfold State.settleQueue; repeat' (first | split | simp)
@[simp] theorem State.settleQueue_lastCompleted (s : State) (t : StationId) (q : Nat) : (s.settleQueue t q).lastCompleted = s.lastCompleted := by
  unfold State.settleQueue; repeat' (first | split | simp)
@[simp] theorem State.settleQueue_pending (s : State) (t : StationId) (q : Nat) : (s.settleQueue t q).pending = s.pending := by
  unfold State.settleQueue; repeat' (first | split | simp)

/-! ### releaseHeld -/

@[simp] theorem State.releaseHeld_ports (s : State) (t : StationId) (q c : Nat) (pl : HeldPlace) : (s.releaseHeld t q c pl).ports = s.ports := by
  unfold State.releaseHeld; repeat' (first | split | simp)
@[simp] theorem State.releaseHeld_sweep (s : State) (t : StationId) (q c : Nat) (pl : HeldPlace) : (s.releaseHeld t q c pl).sweep = s.sweep := by
  unfold State.releaseHeld; repeat' (first | split | simp)
@[simp] theorem State.releaseHeld_lastTicket (s : State) (t : StationId) (q c : Nat) (pl : HeldPlace) : (s.releaseHeld t q c pl).lastTicket = s.lastTicket := by
  unfold State.releaseHeld; repeat' (first | split | simp)
@[simp] theorem State.releaseHeld_lastCompleted (s : State) (t : StationId) (q c : Nat) (pl : HeldPlace) : (s.releaseHeld t q c pl).lastCompleted = s.lastCompleted := by
  unfold State.releaseHeld; repeat' (first | split | simp)
@[simp] theorem State.releaseHeld_pending (s : State) (t : StationId) (q c : Nat) (pl : HeldPlace) : (s.releaseHeld t q c pl).pending = s.pending := by
  unfold State.releaseHeld; repeat' (first | split | simp)

/-! ### releaseGrant -/

@[simp] theorem State.releaseGrant_ports (s : State) (c : FreeCause) (d : Nat) (t : StationId) (g : CarriedGrant) : (s.releaseGrant c d t g).ports = s.ports := by
  unfold State.releaseGrant; repeat' (first | split | simp)
@[simp] theorem State.releaseGrant_sweep (s : State) (c : FreeCause) (d : Nat) (t : StationId) (g : CarriedGrant) : (s.releaseGrant c d t g).sweep = s.sweep := by
  unfold State.releaseGrant; repeat' (first | split | simp)
@[simp] theorem State.releaseGrant_lastTicket (s : State) (c : FreeCause) (d : Nat) (t : StationId) (g : CarriedGrant) : (s.releaseGrant c d t g).lastTicket = s.lastTicket := by
  unfold State.releaseGrant; repeat' (first | split | simp)
@[simp] theorem State.releaseGrant_lastCompleted (s : State) (c : FreeCause) (d : Nat) (t : StationId) (g : CarriedGrant) : (s.releaseGrant c d t g).lastCompleted = s.lastCompleted := by
  unfold State.releaseGrant; repeat' (first | split | simp)
@[simp] theorem State.releaseGrant_pending (s : State) (c : FreeCause) (d : Nat) (t : StationId) (g : CarriedGrant) : (s.releaseGrant c d t g).pending = s.pending := by
  unfold State.releaseGrant; repeat' (first | split | simp)

/-! ### freeDescriptor -/

@[simp] theorem State.freeDescriptor_ports (s : State) (d : Nat) (x : Descriptor) (c : FreeCause) (pl : HeldPlace) : (s.freeDescriptor d x c pl).ports = s.ports := by
  unfold State.freeDescriptor; repeat' (first | split | simp)
@[simp] theorem State.freeDescriptor_sweep (s : State) (d : Nat) (x : Descriptor) (c : FreeCause) (pl : HeldPlace) : (s.freeDescriptor d x c pl).sweep = s.sweep := by
  unfold State.freeDescriptor; repeat' (first | split | simp)
@[simp] theorem State.freeDescriptor_lastTicket (s : State) (d : Nat) (x : Descriptor) (c : FreeCause) (pl : HeldPlace) : (s.freeDescriptor d x c pl).lastTicket = s.lastTicket := by
  unfold State.freeDescriptor; repeat' (first | split | simp)
@[simp] theorem State.freeDescriptor_lastCompleted (s : State) (d : Nat) (x : Descriptor) (c : FreeCause) (pl : HeldPlace) : (s.freeDescriptor d x c pl).lastCompleted = s.lastCompleted := by
  unfold State.freeDescriptor; repeat' (first | split | simp)
@[simp] theorem State.freeDescriptor_pending (s : State) (d : Nat) (x : Descriptor) (c : FreeCause) (pl : HeldPlace) : (s.freeDescriptor d x c pl).pending = s.pending := by
  unfold State.freeDescriptor; repeat' (first | split | simp)

/-! ### freeReport -/

@[simp] theorem State.freeReport_ports (s : State) (r : Nat) (x : ReportRecord) (pl : HeldPlace) : (s.freeReport r x pl).ports = s.ports := by
  unfold State.freeReport; repeat' (first | split | simp)
@[simp] theorem State.freeReport_sweep (s : State) (r : Nat) (x : ReportRecord) (pl : HeldPlace) : (s.freeReport r x pl).sweep = s.sweep := by
  unfold State.freeReport; repeat' (first | split | simp)
@[simp] theorem State.freeReport_lastTicket (s : State) (r : Nat) (x : ReportRecord) (pl : HeldPlace) : (s.freeReport r x pl).lastTicket = s.lastTicket := by
  unfold State.freeReport; repeat' (first | split | simp)
@[simp] theorem State.freeReport_lastCompleted (s : State) (r : Nat) (x : ReportRecord) (pl : HeldPlace) : (s.freeReport r x pl).lastCompleted = s.lastCompleted := by
  unfold State.freeReport; repeat' (first | split | simp)
@[simp] theorem State.freeReport_pending (s : State) (r : Nat) (x : ReportRecord) (pl : HeldPlace) : (s.freeReport r x pl).pending = s.pending := by
  unfold State.freeReport; repeat' (first | split | simp)

/-! ### freeEntry -/

@[simp] theorem State.freeEntry_ports (s : State) (e : EntryRef) (c : FreeCause) (pl : HeldPlace) : (s.freeEntry e c pl).ports = s.ports := by
  unfold State.freeEntry; repeat' (first | split | simp)
@[simp] theorem State.freeEntry_sweep (s : State) (e : EntryRef) (c : FreeCause) (pl : HeldPlace) : (s.freeEntry e c pl).sweep = s.sweep := by
  unfold State.freeEntry; repeat' (first | split | simp)
@[simp] theorem State.freeEntry_lastTicket (s : State) (e : EntryRef) (c : FreeCause) (pl : HeldPlace) : (s.freeEntry e c pl).lastTicket = s.lastTicket := by
  unfold State.freeEntry; repeat' (first | split | simp)
@[simp] theorem State.freeEntry_lastCompleted (s : State) (e : EntryRef) (c : FreeCause) (pl : HeldPlace) : (s.freeEntry e c pl).lastCompleted = s.lastCompleted := by
  unfold State.freeEntry; repeat' (first | split | simp)
@[simp] theorem State.freeEntry_pending (s : State) (e : EntryRef) (c : FreeCause) (pl : HeldPlace) : (s.freeEntry e c pl).pending = s.pending := by
  unfold State.freeEntry; repeat' (first | split | simp)

/-! ### clearSeq -/

@[simp] theorem State.clearSeq_ports (s : State) (e : EntryRef) : (s.clearSeq e).ports = s.ports := by
  unfold State.clearSeq; repeat' (first | split | simp)
@[simp] theorem State.clearSeq_sweep (s : State) (e : EntryRef) : (s.clearSeq e).sweep = s.sweep := by
  unfold State.clearSeq; repeat' (first | split | simp)
@[simp] theorem State.clearSeq_lastTicket (s : State) (e : EntryRef) : (s.clearSeq e).lastTicket = s.lastTicket := by
  unfold State.clearSeq; repeat' (first | split | simp)
@[simp] theorem State.clearSeq_lastCompleted (s : State) (e : EntryRef) : (s.clearSeq e).lastCompleted = s.lastCompleted := by
  unfold State.clearSeq; repeat' (first | split | simp)
@[simp] theorem State.clearSeq_pending (s : State) (e : EntryRef) : (s.clearSeq e).pending = s.pending := by
  unfold State.clearSeq; repeat' (first | split | simp)

/-! ### returnEntry -/

@[simp] theorem State.returnEntry_ports (s : State) (t : StationId) (q : Nat) (x : Queue) (e : EntryRef) (k : Nat) : (s.returnEntry t q x e k).ports = s.ports := by
  unfold State.returnEntry; repeat' (first | split | simp)
@[simp] theorem State.returnEntry_sweep (s : State) (t : StationId) (q : Nat) (x : Queue) (e : EntryRef) (k : Nat) : (s.returnEntry t q x e k).sweep = s.sweep := by
  unfold State.returnEntry; repeat' (first | split | simp)
@[simp] theorem State.returnEntry_lastTicket (s : State) (t : StationId) (q : Nat) (x : Queue) (e : EntryRef) (k : Nat) : (s.returnEntry t q x e k).lastTicket = s.lastTicket := by
  unfold State.returnEntry; repeat' (first | split | simp)
@[simp] theorem State.returnEntry_lastCompleted (s : State) (t : StationId) (q : Nat) (x : Queue) (e : EntryRef) (k : Nat) : (s.returnEntry t q x e k).lastCompleted = s.lastCompleted := by
  unfold State.returnEntry; repeat' (first | split | simp)
@[simp] theorem State.returnEntry_pending (s : State) (t : StationId) (q : Nat) (x : Queue) (e : EntryRef) (k : Nat) : (s.returnEntry t q x e k).pending = s.pending := by
  unfold State.returnEntry; repeat' (first | split | simp)

/-! ### giveSeq -/

@[simp] theorem State.giveSeq_ports (s : State) (e : EntryRef) (n : SeqNum) : (s.giveSeq e n).ports = s.ports := by
  unfold State.giveSeq; repeat' (first | split | simp)
@[simp] theorem State.giveSeq_sweep (s : State) (e : EntryRef) (n : SeqNum) : (s.giveSeq e n).sweep = s.sweep := by
  unfold State.giveSeq; repeat' (first | split | simp)
@[simp] theorem State.giveSeq_lastTicket (s : State) (e : EntryRef) (n : SeqNum) : (s.giveSeq e n).lastTicket = s.lastTicket := by
  unfold State.giveSeq; repeat' (first | split | simp)
@[simp] theorem State.giveSeq_lastCompleted (s : State) (e : EntryRef) (n : SeqNum) : (s.giveSeq e n).lastCompleted = s.lastCompleted := by
  unfold State.giveSeq; repeat' (first | split | simp)
@[simp] theorem State.giveSeq_pending (s : State) (e : EntryRef) (n : SeqNum) : (s.giveSeq e n).pending = s.pending := by
  unfold State.giveSeq; repeat' (first | split | simp)

/-! ### markRepeated -/

@[simp] theorem State.markRepeated_ports (s : State) (e : EntryRef) : (s.markRepeated e).ports = s.ports := by
  unfold State.markRepeated; repeat' (first | split | simp)
@[simp] theorem State.markRepeated_sweep (s : State) (e : EntryRef) : (s.markRepeated e).sweep = s.sweep := by
  unfold State.markRepeated; repeat' (first | split | simp)
@[simp] theorem State.markRepeated_lastTicket (s : State) (e : EntryRef) : (s.markRepeated e).lastTicket = s.lastTicket := by
  unfold State.markRepeated; repeat' (first | split | simp)
@[simp] theorem State.markRepeated_lastCompleted (s : State) (e : EntryRef) : (s.markRepeated e).lastCompleted = s.lastCompleted := by
  unfold State.markRepeated; repeat' (first | split | simp)
@[simp] theorem State.markRepeated_pending (s : State) (e : EntryRef) : (s.markRepeated e).pending = s.pending := by
  unfold State.markRepeated; repeat' (first | split | simp)

/-! ### reserve -/

@[simp] theorem State.reserve_ports (s : State) (t : StationId) (d : Nat) (g : CarriedGrant) : (s.reserve t d g).1.ports = s.ports := by
  unfold State.reserve; repeat' (first | split | simp)
@[simp] theorem State.reserve_sweep (s : State) (t : StationId) (d : Nat) (g : CarriedGrant) : (s.reserve t d g).1.sweep = s.sweep := by
  unfold State.reserve; repeat' (first | split | simp)
@[simp] theorem State.reserve_lastTicket (s : State) (t : StationId) (d : Nat) (g : CarriedGrant) : (s.reserve t d g).1.lastTicket = s.lastTicket := by
  unfold State.reserve; repeat' (first | split | simp)
@[simp] theorem State.reserve_lastCompleted (s : State) (t : StationId) (d : Nat) (g : CarriedGrant) : (s.reserve t d g).1.lastCompleted = s.lastCompleted := by
  unfold State.reserve; repeat' (first | split | simp)
@[simp] theorem State.reserve_pending (s : State) (t : StationId) (d : Nat) (g : CarriedGrant) : (s.reserve t d g).1.pending = s.pending := by
  unfold State.reserve; repeat' (first | split | simp)

/-! ### resolveGrant -/

@[simp] theorem State.resolveGrant_ports (s : State) (t : StationId) (e : EntryRef) : (s.resolveGrant t e).ports = s.ports := by
  unfold State.resolveGrant; repeat' (first | split | simp)
@[simp] theorem State.resolveGrant_sweep (s : State) (t : StationId) (e : EntryRef) : (s.resolveGrant t e).sweep = s.sweep := by
  unfold State.resolveGrant; repeat' (first | split | simp)
@[simp] theorem State.resolveGrant_lastTicket (s : State) (t : StationId) (e : EntryRef) : (s.resolveGrant t e).lastTicket = s.lastTicket := by
  unfold State.resolveGrant; repeat' (first | split | simp)
@[simp] theorem State.resolveGrant_lastCompleted (s : State) (t : StationId) (e : EntryRef) : (s.resolveGrant t e).lastCompleted = s.lastCompleted := by
  unfold State.resolveGrant; repeat' (first | split | simp)
@[simp] theorem State.resolveGrant_pending (s : State) (t : StationId) (e : EntryRef) : (s.resolveGrant t e).pending = s.pending := by
  unfold State.resolveGrant; repeat' (first | split | simp)

/-! ### handBackOne -/

@[simp] theorem State.handBackOne_ports (s : State) (done : List EntryRef) (e : EntryRef) : (s.handBackOne done e).ports = s.ports := by
  unfold State.handBackOne; repeat' (first | split | simp)
@[simp] theorem State.handBackOne_sweep (s : State) (done : List EntryRef) (e : EntryRef) : (s.handBackOne done e).sweep = s.sweep := by
  unfold State.handBackOne; repeat' (first | split | simp)
@[simp] theorem State.handBackOne_lastTicket (s : State) (done : List EntryRef) (e : EntryRef) : (s.handBackOne done e).lastTicket = s.lastTicket := by
  unfold State.handBackOne; repeat' (first | split | simp)
@[simp] theorem State.handBackOne_lastCompleted (s : State) (done : List EntryRef) (e : EntryRef) : (s.handBackOne done e).lastCompleted = s.lastCompleted := by
  unfold State.handBackOne; repeat' (first | split | simp)
@[simp] theorem State.handBackOne_pending (s : State) (done : List EntryRef) (e : EntryRef) : (s.handBackOne done e).pending = s.pending := by
  unfold State.handBackOne; repeat' (first | split | simp)

/-! ### callReports -/

@[simp] theorem State.callReports_ports (s : State) (c : ReportContent) (l : List StationId) : (s.callReports c l).ports = s.ports := by
  induction l generalizing s with
  | nil => rfl
  | cons e r ih => simp [State.callReports, ih]
@[simp] theorem State.callReports_sweep (s : State) (c : ReportContent) (l : List StationId) : (s.callReports c l).sweep = s.sweep := by
  induction l generalizing s with
  | nil => rfl
  | cons e r ih => simp [State.callReports, ih]
@[simp] theorem State.callReports_lastTicket (s : State) (c : ReportContent) (l : List StationId) : (s.callReports c l).lastTicket = s.lastTicket := by
  induction l generalizing s with
  | nil => rfl
  | cons e r ih => simp [State.callReports, ih]
@[simp] theorem State.callReports_lastCompleted (s : State) (c : ReportContent) (l : List StationId) : (s.callReports c l).lastCompleted = s.lastCompleted := by
  induction l generalizing s with
  | nil => rfl
  | cons e r ih => simp [State.callReports, ih]
@[simp] theorem State.callReports_pending (s : State) (c : ReportContent) (l : List StationId) : (s.callReports c l).pending = s.pending := by
  induction l generalizing s with
  | nil => rfl
  | cons e r ih => simp [State.callReports, ih]

/-! ### handBack -/

@[simp] theorem State.handBack_ports (s : State) (done l : List EntryRef) : (s.handBack done l).ports = s.ports := by
  induction l generalizing s done with
  | nil => rfl
  | cons e r ih => simp [State.handBack, ih]
@[simp] theorem State.handBack_sweep (s : State) (done l : List EntryRef) : (s.handBack done l).sweep = s.sweep := by
  induction l generalizing s done with
  | nil => rfl
  | cons e r ih => simp [State.handBack, ih]
@[simp] theorem State.handBack_lastTicket (s : State) (done l : List EntryRef) : (s.handBack done l).lastTicket = s.lastTicket := by
  induction l generalizing s done with
  | nil => rfl
  | cons e r ih => simp [State.handBack, ih]
@[simp] theorem State.handBack_lastCompleted (s : State) (done l : List EntryRef) : (s.handBack done l).lastCompleted = s.lastCompleted := by
  induction l generalizing s done with
  | nil => rfl
  | cons e r ih => simp [State.handBack, ih]
@[simp] theorem State.handBack_pending (s : State) (done l : List EntryRef) : (s.handBack done l).pending = s.pending := by
  induction l generalizing s done with
  | nil => rfl
  | cons e r ih => simp [State.handBack, ih]

/-! ### completeAll -/

@[simp] theorem State.completeAll_ports (s : State) (l : List EntryRef) : (s.completeAll l).ports = s.ports := by
  induction l generalizing s with
  | nil => rfl
  | cons e r ih => simp [State.completeAll, ih]
@[simp] theorem State.completeAll_sweep (s : State) (l : List EntryRef) : (s.completeAll l).sweep = s.sweep := by
  induction l generalizing s with
  | nil => rfl
  | cons e r ih => simp [State.completeAll, ih]
@[simp] theorem State.completeAll_lastTicket (s : State) (l : List EntryRef) : (s.completeAll l).lastTicket = s.lastTicket := by
  induction l generalizing s with
  | nil => rfl
  | cons e r ih => simp [State.completeAll, ih]
@[simp] theorem State.completeAll_lastCompleted (s : State) (l : List EntryRef) : (s.completeAll l).lastCompleted = s.lastCompleted := by
  induction l generalizing s with
  | nil => rfl
  | cons e r ih => simp [State.completeAll, ih]
@[simp] theorem State.completeAll_pending (s : State) (l : List EntryRef) : (s.completeAll l).pending = s.pending := by
  induction l generalizing s with
  | nil => rfl
  | cons e r ih => simp [State.completeAll, ih]

/-! ### What each operation can do -/

/-- A report called for is placed, or missed, or not called for at all (R148, R149). -/
theorem State.callReport_cases (s : State) (t : StationId) (c : ReportContent) :
    (s.isEnabled t = false ∧ s.callReport t c = s) ∨
    (∃ q, s.isEnabled t = true ∧ s.queue t 0 = some q ∧ s.canPlace q = true ∧ s.callReport t c = s.placeReport t q c) ∨
    (s.isEnabled t = true ∧ (∀ q, s.queue t 0 = some q → s.canPlace q = false) ∧ s.callReport t c = s.missReport t) := by
  unfold State.callReport
  cases h : s.isEnabled t
  · exact Or.inl ⟨rfl, by simp⟩
  · cases hq : s.queue t 0 with
    | none => exact Or.inr (Or.inr ⟨rfl, by simp, by simp⟩)
    | some q =>
      cases hc : s.canPlace q
      · exact Or.inr (Or.inr ⟨rfl, by simp [hc], by simp [hc]⟩)
      · exact Or.inr (Or.inl ⟨q, rfl, rfl, hc, by simp [hc]⟩)

/-- Lowering a live count does nothing without the family, closes it at the last copy, and otherwise lowers it by one
(R18, R19). -/
theorem State.lowerLive_cases (s : State) (f : Nat) :
    (s.family f = none ∧ s.lowerLive f = s) ∨
    (∃ x, s.family f = some x ∧ x.live ≤ 1 ∧ s.lowerLive f = s.closeFamily f x) ∨
    (∃ x, s.family f = some x ∧ 1 < x.live ∧ s.lowerLive f = s.setFamily f { x with live := x.live - 1 }) := by
  unfold State.lowerLive
  cases h : s.family f with
  | none => exact Or.inl ⟨rfl, rfl⟩
  | some x =>
    by_cases hl : x.live ≤ 1
    · exact Or.inr (Or.inl ⟨x, rfl, hl, by simp [hl]⟩)
    · exact Or.inr (Or.inr ⟨x, rfl, by omega, by simp [hl]⟩)

/-- A reservation claim is refused without any change, or takes the lowest FREE slot (R21). -/
theorem State.reserve_cases (s : State) (t : StationId) (d : Nat) (g : CarriedGrant) :
    (∃ r, s.reserve t d g = (s, .void r)) ∨
    (s.familyOpen g.family = true ∧ s.belowGrantLimit t = true ∧ s.storeHasRoom = true ∧
      s.reserve t d g = (s.takeSlot t (s.lowestFreeSlot t) ⟨.reserved d, g.family, g.rights, g.budget⟩,
        .reserved (s.lowestFreeSlot t))) := by
  unfold State.reserve
  split
  · exact Or.inl ⟨_, rfl⟩
  · split
    · exact Or.inl ⟨_, rfl⟩
    · simp_all

/-- A definition claim does nothing, defines the slot, or frees it (R22). -/
theorem State.definitionClaim_cases (s : State) (t : StationId) (n d : Nat) :
    (s.reservedSlot t n d = none ∧ s.definitionClaim t n d = s) ∨
    (∃ x, s.reservedSlot t n d = some x ∧ s.familyOpen x.family = true ∧
      s.definitionClaim t n d = s.writeSlot t n { x with status := .defined }) ∨
    (∃ x, s.reservedSlot t n d = some x ∧ s.familyOpen x.family = false ∧
      s.definitionClaim t n d = s.freeSlot t n x) := by
  unfold State.definitionClaim
  cases h : s.reservedSlot t n d with
  | none => exact Or.inl ⟨rfl, rfl⟩
  | some x =>
    cases hf : s.familyOpen x.family
    · exact Or.inr (Or.inr ⟨x, rfl, hf, by simp [hf]⟩)
    · exact Or.inr (Or.inl ⟨x, rfl, hf, by simp [hf]⟩)

/-- A queue settles into UNUSED or stays (R50). -/
theorem State.settleQueue_cases (s : State) (t : StationId) (q : Nat) :
    s.settleQueue t q = s ∨
    (∃ x, s.queue t q = some x ∧ x.state = .purging ∧ x.passComplete = true ∧ x.heldMessages = 0 ∧
      s.settleQueue t q = s.dropQueue t q) := by
  unfold State.settleQueue
  split
  · exact Or.inl rfl
  · rename_i x hx
    split
    · rename_i hc
      simp at hc
      exact Or.inr ⟨x, hx, hc.1.1, hc.1.2, hc.2, rfl⟩
    · exact Or.inl rfl

/-- A taken head frame: what must have stood in the ingress queue, and the state it leaves (R165). -/
theorem State.takeHeadFrame_eq_some (s : State) (p : PortId) (kind : FrameKind) (f : IngressFrame) (t : State) :
    s.takeHeadFrame p kind = some (f, t) ↔
      ∃ rest, (s.port p).ingress = f :: rest ∧ f.kind = kind ∧ (s.port p).answerRoom = true ∧
        t = s.setPort p { s.port p with ingress := rest } := by
  unfold State.takeHeadFrame
  simp only
  split
  · rename_i h
    simp [h]
  · rename_i g r h
    split
    · rename_i hc
      constructor
      · intro e
        cases e
        exact ⟨r, h, hc.1, hc.2, rfl⟩
      · rintro ⟨rest, hr, -, -, rfl⟩
        rw [h] at hr
        cases hr
        rfl
    · rename_i hc
      constructor
      · intro e; cases e
      · rintro ⟨rest, hr, hk, ha, -⟩
        rw [h] at hr
        cases hr
        exact absurd ⟨hk, ha⟩ hc

/-! ### Every operation keeps the stores canonical -/

theorem State.setPort_storesCanonical (s : State) (p : PortId) (x : PortLink) (h : s.storesCanonical) : (s.setPort p x).storesCanonical := h

theorem State.setWindow_storesCanonical (s : State) (p : PortId) (w : Window) (h : s.storesCanonical) : (s.setWindow p w).storesCanonical := h

theorem State.setStation_storesCanonical (s : State) (t : StationId) (x : Station) (h : s.storesCanonical) : (s.setStation t x).storesCanonical := h

theorem State.setScheduler_storesCanonical (s : State) (t : StationId) (x : Scheduler) (h : s.storesCanonical) : (s.setScheduler t x).storesCanonical := h

theorem State.joinActive_storesCanonical (s : State) (t : StationId) (b : Band) (q : Nat) (h : s.storesCanonical) : (s.joinActive t b q).storesCanonical := h

theorem State.leaveActive_storesCanonical (s : State) (t : StationId) (b : Band) (q : Nat) (h : s.storesCanonical) : (s.leaveActive t b q).storesCanonical := h

theorem State.setFamily_storesCanonical (s : State) (f : Nat) (x : Family) (h : s.storesCanonical) :
    (s.setFamily f x).storesCanonical :=
  ⟨h.1, h.2.1, Table.canonical_put _ _ _ h.2.2.1, h.2.2.2⟩

theorem State.setDescriptor_storesCanonical (s : State) (d : Nat) (x : Descriptor) (h : s.storesCanonical) :
    (s.setDescriptor d x).storesCanonical :=
  ⟨h.1, h.2.1, h.2.2.1, Table.canonical_put _ _ _ h.2.2.2.1, h.2.2.2.2⟩

theorem State.setReport_storesCanonical (s : State) (r : Nat) (x : ReportRecord) (h : s.storesCanonical) :
    (s.setReport r x).storesCanonical :=
  ⟨h.1, h.2.1, h.2.2.1, h.2.2.2.1, Table.canonical_put _ _ _ h.2.2.2.2⟩

/-- A bank of canonical tables stays one when a canonical table is put into it. -/
theorem Bank.canonical_set {α : Type} (v : Bank (Table α)) (t : Fin 8) (x : Table α)
    (h : ∀ u, Table.canonical (Bank.get v u) = true) (hx : Table.canonical x = true) :
    ∀ u, Table.canonical (Bank.get (Bank.set v t x) u) = true := by
  intro u
  rw [Bank.get_set]
  split
  · exact hx
  · exact h u

theorem State.setQueue_storesCanonical (s : State) (t : StationId) (q : Nat) (x : Queue) (h : s.storesCanonical) :
    (s.setQueue t q x).storesCanonical :=
  ⟨h.1, Bank.canonical_set _ _ _ h.2.1 (Table.canonical_put _ _ _ (h.2.1 t)), h.2.2⟩

theorem State.writeSlot_storesCanonical (s : State) (t : StationId) (n : Nat) (x : Slot) (h : s.storesCanonical) :
    (s.writeSlot t n x).storesCanonical :=
  ⟨Bank.canonical_set _ _ _ h.1 (Table.canonical_put _ _ _ (h.1 t)), h.2⟩

theorem State.takeSlot_storesCanonical (s : State) (t : StationId) (n : Nat) (x : Slot) (h : s.storesCanonical) :
    (s.takeSlot t n x).storesCanonical :=
  s.writeSlot_storesCanonical t n x h

theorem State.vacateSlot_storesCanonical (s : State) (t : StationId) (n : Nat) (h : s.storesCanonical) :
    (s.vacateSlot t n).storesCanonical :=
  ⟨Bank.canonical_set _ _ _ h.1 (Table.canonical_erase _ _ (h.1 t)), h.2⟩

theorem State.dropQueue_storesCanonical (s : State) (t : StationId) (q : Nat) (h : s.storesCanonical) :
    (s.dropQueue t q).storesCanonical := by
  have h2 := Bank.canonical_set _ t _ h.2.1 (Table.canonical_erase _ q (h.2.1 t))
  unfold State.dropQueue
  simp only
  split
  · exact ⟨h.1, h2, h.2.2⟩
  · exact ⟨h.1, h2, h.2.2⟩

theorem State.revokeFamilies_storesCanonical (s : State) (test : Family → Bool) (h : s.storesCanonical) :
    (s.revokeFamilies test).storesCanonical := by
  refine ⟨h.1, h.2.1, ?_, h.2.2.2⟩
  unfold State.revokeFamilies
  dsimp only
  apply Table.canonical_mapRecords
  exact h.2.2.1

theorem State.eraseFamily_storesCanonical (s : State) (f : Nat) (h : s.storesCanonical) :
    ({ s with families := Table.erase s.families f } : State).storesCanonical :=
  ⟨h.1, h.2.1, Table.canonical_erase _ _ h.2.2.1, h.2.2.2⟩

theorem State.freeReports_storesCanonical (s : State) (n : Nat) (h : s.storesCanonical) :
    ({ s with freeReports := n } : State).storesCanonical := h

theorem State.heldCells_storesCanonical (s : State) (v : Bank Nat) (h : s.storesCanonical) :
    ({ s with heldCells := v } : State).storesCanonical := h

theorem State.eraseDescriptor_storesCanonical (s : State) (d m n : Nat) (h : s.storesCanonical) :
    ({ s with descriptors := Table.erase s.descriptors d, freeDescriptors := m, freeCells := n } : State).storesCanonical :=
  ⟨h.1, h.2.1, h.2.2.1, Table.canonical_erase _ _ h.2.2.2.1, h.2.2.2.2⟩

theorem State.eraseReport_storesCanonical (s : State) (r n : Nat) (h : s.storesCanonical) :
    ({ s with reports := Table.erase s.reports r, freeReports := n } : State).storesCanonical :=
  ⟨h.1, h.2.1, h.2.2.1, h.2.2.2.1, Table.canonical_erase _ _ h.2.2.2.2⟩

theorem State.placeReport_queues (s : State) (t : StationId) (q : Queue) (c : ReportContent) :
    (s.placeReport t q c).queues = Bank.set s.queues t (Table.put (Bank.get s.queues t) 0
      { q with
        list := q.list ++ [⟨.report (Table.lowestFree s.reports 0), .normal⟩]
        heldMessages := q.heldMessages + 1 }) := by
  unfold State.placeReport; dsimp only; split <;> rfl

theorem State.placeReport_reports (s : State) (t : StationId) (q : Queue) (c : ReportContent) :
    (s.placeReport t q c).reports = Table.put s.reports (Table.lowestFree s.reports 0)
      { station := t, content := c, lostCarried := (s.station t).lostReports, repeated := false, seq := none } := by
  unfold State.placeReport; dsimp only; split <;> rfl

@[simp] theorem State.placeReport_tables (s : State) (t : StationId) (q : Queue) (c : ReportContent) :
    (s.placeReport t q c).tables = s.tables := by
  unfold State.placeReport; dsimp only; split <;> rfl

@[simp] theorem State.placeReport_slotsInUse (s : State) (t : StationId) (q : Queue) (c : ReportContent) :
    (s.placeReport t q c).slotsInUse = s.slotsInUse := by
  unfold State.placeReport; dsimp only; split <;> rfl

@[simp] theorem State.placeReport_storeUse (s : State) (t : StationId) (q : Queue) (c : ReportContent) :
    (s.placeReport t q c).storeUse = s.storeUse := by
  unfold State.placeReport; dsimp only; split <;> rfl

@[simp] theorem State.placeReport_families (s : State) (t : StationId) (q : Queue) (c : ReportContent) :
    (s.placeReport t q c).families = s.families := by
  unfold State.placeReport; dsimp only; split <;> rfl

@[simp] theorem State.placeReport_rqsInUse (s : State) (t : StationId) (q : Queue) (c : ReportContent) :
    (s.placeReport t q c).rqsInUse = s.rqsInUse := by
  unfold State.placeReport; dsimp only; split <;> rfl

@[simp] theorem State.placeReport_descriptors (s : State) (t : StationId) (q : Queue) (c : ReportContent) :
    (s.placeReport t q c).descriptors = s.descriptors := by
  unfold State.placeReport; dsimp only; split <;> rfl

@[simp] theorem State.placeReport_freeDescriptors (s : State) (t : StationId) (q : Queue) (c : ReportContent) :
    (s.placeReport t q c).freeDescriptors = s.freeDescriptors := by
  unfold State.placeReport; dsimp only; split <;> rfl

@[simp] theorem State.placeReport_freeCells (s : State) (t : StationId) (q : Queue) (c : ReportContent) :
    (s.placeReport t q c).freeCells = s.freeCells := by
  unfold State.placeReport; dsimp only; split <;> rfl

@[simp] theorem State.placeReport_heldCells (s : State) (t : StationId) (q : Queue) (c : ReportContent) :
    (s.placeReport t q c).heldCells = s.heldCells := by
  unfold State.placeReport; dsimp only; split <;> rfl

@[simp] theorem State.callReport_tables (s : State) (t : StationId) (c : ReportContent) :
    (s.callReport t c).tables = s.tables := by
  rcases s.callReport_cases t c with ⟨-, h⟩ | ⟨q, -, -, -, h⟩ | ⟨-, -, h⟩ <;> rw [h] <;> simp [State.missReport]

@[simp] theorem State.callReport_slotsInUse (s : State) (t : StationId) (c : ReportContent) :
    (s.callReport t c).slotsInUse = s.slotsInUse := by
  rcases s.callReport_cases t c with ⟨-, h⟩ | ⟨q, -, -, -, h⟩ | ⟨-, -, h⟩ <;> rw [h] <;> simp [State.missReport]

@[simp] theorem State.callReport_storeUse (s : State) (t : StationId) (c : ReportContent) :
    (s.callReport t c).storeUse = s.storeUse := by
  rcases s.callReport_cases t c with ⟨-, h⟩ | ⟨q, -, -, -, h⟩ | ⟨-, -, h⟩ <;> rw [h] <;> simp [State.missReport]

@[simp] theorem State.callReport_families (s : State) (t : StationId) (c : ReportContent) :
    (s.callReport t c).families = s.families := by
  rcases s.callReport_cases t c with ⟨-, h⟩ | ⟨q, -, -, -, h⟩ | ⟨-, -, h⟩ <;> rw [h] <;> simp [State.missReport]

@[simp] theorem State.callReport_rqsInUse (s : State) (t : StationId) (c : ReportContent) :
    (s.callReport t c).rqsInUse = s.rqsInUse := by
  rcases s.callReport_cases t c with ⟨-, h⟩ | ⟨q, -, -, -, h⟩ | ⟨-, -, h⟩ <;> rw [h] <;> simp [State.missReport]

@[simp] theorem State.callReport_descriptors (s : State) (t : StationId) (c : ReportContent) :
    (s.callReport t c).descriptors = s.descriptors := by
  rcases s.callReport_cases t c with ⟨-, h⟩ | ⟨q, -, -, -, h⟩ | ⟨-, -, h⟩ <;> rw [h] <;> simp [State.missReport]

@[simp] theorem State.callReport_freeDescriptors (s : State) (t : StationId) (c : ReportContent) :
    (s.callReport t c).freeDescriptors = s.freeDescriptors := by
  rcases s.callReport_cases t c with ⟨-, h⟩ | ⟨q, -, -, -, h⟩ | ⟨-, -, h⟩ <;> rw [h] <;> simp [State.missReport]

@[simp] theorem State.callReport_freeCells (s : State) (t : StationId) (c : ReportContent) :
    (s.callReport t c).freeCells = s.freeCells := by
  rcases s.callReport_cases t c with ⟨-, h⟩ | ⟨q, -, -, -, h⟩ | ⟨-, -, h⟩ <;> rw [h] <;> simp [State.missReport]

@[simp] theorem State.callReport_heldCells (s : State) (t : StationId) (c : ReportContent) :
    (s.callReport t c).heldCells = s.heldCells := by
  rcases s.callReport_cases t c with ⟨-, h⟩ | ⟨q, -, -, -, h⟩ | ⟨-, -, h⟩ <;> rw [h] <;> simp [State.missReport]

theorem State.placeReport_storesCanonical (s : State) (t : StationId) (q : Queue) (c : ReportContent)
    (h : s.storesCanonical) : (s.placeReport t q c).storesCanonical := by
  refine ⟨?_, ?_, ?_, ?_, ?_⟩
  · simpa using h.1
  · rw [State.placeReport_queues]
    exact Bank.canonical_set _ _ _ h.2.1 (Table.canonical_put _ _ _ (h.2.1 t))
  · simpa using h.2.2.1
  · simpa using h.2.2.2.1
  · rw [State.placeReport_reports]
    exact Table.canonical_put _ _ _ h.2.2.2.2

theorem State.missReport_storesCanonical (s : State) (t : StationId) (h : s.storesCanonical) :
    (s.missReport t).storesCanonical := by
  unfold State.missReport
  try dsimp only
  repeat' (first | with_reducible exact h | split | with_reducible apply State.setStation_storesCanonical)

theorem State.callReport_storesCanonical (s : State) (t : StationId) (c : ReportContent) (h : s.storesCanonical) :
    (s.callReport t c).storesCanonical := by
  unfold State.callReport
  try dsimp only
  repeat' (first | with_reducible exact h | split | with_reducible apply State.placeReport_storesCanonical | with_reducible apply State.missReport_storesCanonical)

theorem State.closeFamily_storesCanonical (s : State) (f : Nat) (x : Family) (h : s.storesCanonical) :
    (s.closeFamily f x).storesCanonical := by
  unfold State.closeFamily
  try dsimp only
  repeat' (first | with_reducible exact h | split | with_reducible apply State.callReport_storesCanonical | with_reducible apply State.eraseFamily_storesCanonical)

theorem State.lowerLive_storesCanonical (s : State) (f : Nat) (h : s.storesCanonical) :
    (s.lowerLive f).storesCanonical := by
  unfold State.lowerLive
  try dsimp only
  repeat' (first | with_reducible exact h | split | with_reducible apply State.closeFamily_storesCanonical | with_reducible apply State.setFamily_storesCanonical)

theorem State.raiseLive_storesCanonical (s : State) (f : Nat) (h : s.storesCanonical) :
    (s.raiseLive f).storesCanonical := by
  unfold State.raiseLive
  try dsimp only
  repeat' (first | with_reducible exact h | split | with_reducible apply State.setFamily_storesCanonical)

theorem State.freeSlot_storesCanonical (s : State) (t : StationId) (n : Nat) (x : Slot) (h : s.storesCanonical) :
    (s.freeSlot t n x).storesCanonical := by
  unfold State.freeSlot
  try dsimp only
  repeat' (first | with_reducible exact h | split | with_reducible apply State.lowerLive_storesCanonical | with_reducible apply State.vacateSlot_storesCanonical)

theorem State.definitionClaim_storesCanonical (s : State) (t : StationId) (n d : Nat) (h : s.storesCanonical) :
    (s.definitionClaim t n d).storesCanonical := by
  unfold State.definitionClaim
  try dsimp only
  repeat' (first | with_reducible exact h | split | with_reducible apply State.writeSlot_storesCanonical | with_reducible apply State.freeSlot_storesCanonical)

theorem State.freeReserved_storesCanonical (s : State) (t : StationId) (n d : Nat) (h : s.storesCanonical) :
    (s.freeReserved t n d).storesCanonical := by
  unfold State.freeReserved
  try dsimp only
  repeat' (first | with_reducible exact h | split | with_reducible apply State.freeSlot_storesCanonical)

theorem State.voidReserved_storesCanonical (s : State) (d n : Nat) (h : s.storesCanonical) :
    (s.voidReserved d n).storesCanonical := by
  unfold State.voidReserved
  try dsimp only
  repeat' (first | with_reducible exact h | split | with_reducible apply State.setDescriptor_storesCanonical)

theorem State.settleQueue_storesCanonical (s : State) (t : StationId) (q : Nat) (h : s.storesCanonical) :
    (s.settleQueue t q).storesCanonical := by
  unfold State.settleQueue
  try dsimp only
  repeat' (first | with_reducible exact h | split | with_reducible apply State.dropQueue_storesCanonical)

theorem State.releaseHeld_storesCanonical (s : State) (t : StationId) (q c : Nat) (pl : HeldPlace)
    (h : s.storesCanonical) : (s.releaseHeld t q c pl).storesCanonical := by
  unfold State.releaseHeld
  split
  · exact h
  · exact State.settleQueue_storesCanonical _ _ _
      (State.heldCells_storesCanonical _ _ (State.setQueue_storesCanonical _ _ _ _ h))

theorem State.releaseGrant_storesCanonical (s : State) (c : FreeCause) (d : Nat) (t : StationId) (g : CarriedGrant) (h : s.storesCanonical) :
    (s.releaseGrant c d t g).storesCanonical := by
  unfold State.releaseGrant
  try dsimp only
  repeat' (first | with_reducible exact h | split | with_reducible apply State.lowerLive_storesCanonical | with_reducible apply State.definitionClaim_storesCanonical | with_reducible apply State.freeReserved_storesCanonical)

theorem State.freeDescriptor_storesCanonical (s : State) (d : Nat) (x : Descriptor) (c : FreeCause) (pl : HeldPlace) (h : s.storesCanonical) :
    (s.freeDescriptor d x c pl).storesCanonical := by
  unfold State.freeDescriptor
  try dsimp only
  repeat' (first | with_reducible exact h | split | with_reducible apply State.releaseHeld_storesCanonical | with_reducible apply State.eraseDescriptor_storesCanonical | with_reducible apply State.releaseGrant_storesCanonical)

theorem State.freeReport_storesCanonical (s : State) (r : Nat) (x : ReportRecord) (pl : HeldPlace) (h : s.storesCanonical) :
    (s.freeReport r x pl).storesCanonical := by
  unfold State.freeReport
  try dsimp only
  repeat' (first | with_reducible exact h | split | with_reducible apply State.releaseHeld_storesCanonical | with_reducible apply State.eraseReport_storesCanonical)

theorem State.freeEntry_storesCanonical (s : State) (e : EntryRef) (c : FreeCause) (pl : HeldPlace) (h : s.storesCanonical) :
    (s.freeEntry e c pl).storesCanonical := by
  unfold State.freeEntry
  try dsimp only
  repeat' (first | with_reducible exact h | split | with_reducible apply State.freeDescriptor_storesCanonical | with_reducible apply State.freeReport_storesCanonical)

theorem State.clearSeq_storesCanonical (s : State) (e : EntryRef) (h : s.storesCanonical) :
    (s.clearSeq e).storesCanonical := by
  unfold State.clearSeq
  try dsimp only
  repeat' (first | with_reducible exact h | split | with_reducible apply State.setDescriptor_storesCanonical | with_reducible apply State.setReport_storesCanonical)

theorem State.giveSeq_storesCanonical (s : State) (e : EntryRef) (n : SeqNum) (h : s.storesCanonical) :
    (s.giveSeq e n).storesCanonical := by
  unfold State.giveSeq
  try dsimp only
  repeat' (first | with_reducible exact h | split | with_reducible apply State.setDescriptor_storesCanonical | with_reducible apply State.setReport_storesCanonical)

theorem State.markRepeated_storesCanonical (s : State) (e : EntryRef) (h : s.storesCanonical) :
    (s.markRepeated e).storesCanonical := by
  unfold State.markRepeated
  try dsimp only
  repeat' (first | with_reducible exact h | split | with_reducible apply State.setDescriptor_storesCanonical | with_reducible apply State.setReport_storesCanonical)

theorem State.returnEntry_storesCanonical (s : State) (t : StationId) (q : Nat) (x : Queue) (e : EntryRef) (k : Nat) (h : s.storesCanonical) :
    (s.returnEntry t q x e k).storesCanonical := by
  unfold State.returnEntry
  try dsimp only
  repeat' (first | with_reducible exact h | split | with_reducible apply State.joinActive_storesCanonical | with_reducible apply State.setQueue_storesCanonical | with_reducible apply State.clearSeq_storesCanonical)

theorem State.handBackOne_storesCanonical (s : State) (done : List EntryRef) (e : EntryRef) (h : s.storesCanonical) :
    (s.handBackOne done e).storesCanonical := by
  unfold State.handBackOne
  try dsimp only
  repeat' (first | with_reducible exact h | split | with_reducible apply State.freeEntry_storesCanonical | with_reducible apply State.returnEntry_storesCanonical)

theorem State.callReports_storesCanonical (s : State) (c : ReportContent) (l : List StationId) (h : s.storesCanonical) :
    (s.callReports c l).storesCanonical := by
  induction l generalizing s with
  | nil => exact h
  | cons e r ih => exact ih _ (s.callReport_storesCanonical _ _ h)

theorem State.completeAll_storesCanonical (s : State) (l : List EntryRef) (h : s.storesCanonical) :
    (s.completeAll l).storesCanonical := by
  induction l generalizing s with
  | nil => exact h
  | cons e r ih => exact ih _ (s.freeEntry_storesCanonical _ _ _ h)

theorem State.handBack_storesCanonical (s : State) (done l : List EntryRef) (h : s.storesCanonical) :
    (s.handBack done l).storesCanonical := by
  induction l generalizing s done with
  | nil => exact h
  | cons e r ih => exact ih _ _ (s.handBackOne_storesCanonical _ _ h)

theorem State.produceAnswer_storesCanonical (s : State) (p : PortId) (a : Answer) (h : s.storesCanonical) :
    (s.produceAnswer p a).storesCanonical := h

theorem State.queueAnswer_storesCanonical (s : State) (p : PortId) (a : Answer) (h : s.storesCanonical) :
    (s.queueAnswer p a).storesCanonical := h

theorem State.endSession_storesCanonical (s : State) (p : PortId) (h : s.storesCanonical) :
    (s.endSession p).storesCanonical := State.handBack_storesCanonical _ _ _ h

theorem State.fence_storesCanonical (s : State) (p : PortId) (c : FenceCause) (h : s.storesCanonical) :
    (s.fence p c).storesCanonical := by
  unfold State.fence
  exact State.callReports_storesCanonical _ _ _ (State.setPort_storesCanonical _ _ _ (s.endSession_storesCanonical p h))

theorem State.protocolError_storesCanonical (s : State) (p : PortId) (h : s.storesCanonical) :
    (s.protocolError p).storesCanonical := by
  unfold State.protocolError
  dsimp only
  split
  · split
    · exact State.fence_storesCanonical _ _ _ (State.setPort_storesCanonical _ _ _ h)
    · exact h
  · exact h

end Sys2Proof.Machine
end

