-- ==== Sys2Proof/Laws/Control.lean ====
section
/-! SUPPORT. What the taking of a request does, said once: provers cite these instead of unfolding the Control Path. -/

namespace Sys2Proof.Machine

/-- A CONTROL frame of this request at the head of the ingress queue, with room in the answer list, is answered
(R165, R180). -/
theorem Request.take_offered {α : Type} (r : Request α) (p : PortId) (s : State) (f : IngressFrame)
    (rest : List IngressFrame) (code length : Byte) (params : List Byte) (h1 : (s.port p).ingress = f :: rest)
    (h2 : f.kind = .control) (h3 : (s.port p).answers.length < 8) (h4 : f.body = code :: length :: params)
    (h5 : code.toNat = r.code) :
    r.take p s = r.answer (s.setPort p { s.port p with ingress := rest }) p f length.toNat params := by
  have ht : s.takeHeadFrame p .control = some (f, s.setPort p { s.port p with ingress := rest }) := by
    rw [State.takeHeadFrame_eq_some]
    exact ⟨rest, h1, h2, decide_eq_true (p := (s.port p).answers.length < Config.answerCapacity) h3, rfl⟩
  unfold Request.take
  simp only [ht, h4]
  rw [if_pos h5]

/-- A request whose parameters cannot be read is answered MALFORMED (R181). -/
theorem Request.answer_malformed {α : Type} (r : Request α) (s : State) (p : PortId) (f : IngressFrame) (length : Nat)
    (params : List Byte) (h : r.parameters length params = none) :
    r.answer s p f length params = s.answerMalformed p f := by
  unfold Request.answer
  simp only [h]

/-- A request whose parameters are read is answered with the reply of its checks and its owning rule (R181, R183). -/
theorem Request.answer_read {α : Type} (r : Request α) (s : State) (p : PortId) (f : IngressFrame) (length : Nat)
    (params : List Byte) (a : α) (h : r.parameters length params = some a) :
    r.answer s p f length params =
      (let reply := r.decide s p a
       let s' := reply.state.produceAnswer p (.response f.session f.seq reply.status reply.result)
       if reply.status.isSuccess then r.finish s' p else s') := by
  unfold Request.answer
  simp only [h]

/-- Once checks 3 to 5 pass, the owning rule runs (R181). -/
theorem Request.decide_passed {α : Type} (r : Request α) (s : State) (t : StationId) (a : α)
    (h3 : r.anyStation = true ∨ s.isEnabled t = true) (h4 : r.permitted s t a = true) (h5 : r.inRange a = true) :
    r.decide s t a = r.work s t a := by
  unfold Request.decide
  rcases h3 with h3 | h3 <;> simp [h3, h4, h5]

/-- A requester that is not ENABLED is refused by every request but READ DEVICE (R181 check 3). -/
theorem Request.decide_notEnabled {α : Type} (r : Request α) (s : State) (t : StationId) (a : α)
    (h : r.anyStation = false) (h3 : s.isEnabled t = false) : r.decide s t a = Reply.refuse s .notEnabled := by
  unfold Request.decide
  simp [h, h3]

/-- The permission is checked before the ranges (R181 checks 4 and 5). -/
theorem Request.decide_notPermitted {α : Type} (r : Request α) (s : State) (t : StationId) (a : α)
    (h3 : s.isEnabled t = true) (h4 : r.permitted s t a = false) : r.decide s t a = Reply.refuse s .notPermitted := by
  unfold Request.decide
  simp [h3, h4]

/-- A parameter out of range is answered BAD_VALUE (R181 check 5). -/
theorem Request.decide_badValue {α : Type} (r : Request α) (s : State) (t : StationId) (a : α)
    (h3 : s.isEnabled t = true) (h4 : r.permitted s t a = true) (h5 : r.inRange a = false) :
    r.decide s t a = Reply.refuse s .badValue := by
  unfold Request.decide
  simp [h3, h4, h5]

/-- Taking changes what a port's own items read as, and nothing else of the state that a request reads. -/
theorem State.setPort_isEnabled (s : State) (p : PortId) (x : PortLink) (t : StationId) :
    (s.setPort p x).isEnabled t = s.isEnabled t := rfl

theorem State.setPort_holdsManage (s : State) (p : PortId) (x : PortLink) (t : StationId) :
    (s.setPort p x).holdsManage t = s.holdsManage t := rfl

end Sys2Proof.Machine
end

