-- ==== Sys2Proof/Laws/Independence.lean ====
section
/-! SUPPORT. The operations that free entries, lower live counts and call for reports read nothing of the ports, and those
that lower live counts and call for reports nothing of the descriptors: a change there commutes with each of them. -/

namespace Sys2Proof.Machine

/-! ### Descriptors -/

theorem State.callReport_withDescriptors (s : State) (l : Table Descriptor) (t : StationId) (c : ReportContent) :
    State.callReport { s with descriptors := l } t c = { s.callReport t c with descriptors := l } := by
  have e1 : State.isEnabled { s with descriptors := l } t = s.isEnabled t := rfl
  have e2 : State.queue { s with descriptors := l } t 0 = s.queue t 0 := rfl
  have e3 : ∀ q, State.canPlace { s with descriptors := l } q = s.canPlace q := fun _ => rfl
  unfold State.callReport
  rw [e1, e2]
  cases s.isEnabled t
  · rfl
  · cases s.queue t 0 with
    | none => rfl
    | some q =>
      simp only [e3]
      cases s.canPlace q
      · rfl
      · simp only [if_true, State.placeReport]
        cases q.list.isEmpty <;> rfl

theorem State.closeFamily_withDescriptors (s : State) (l : Table Descriptor) (f : Nat) (x : Family) :
    State.closeFamily { s with descriptors := l } f x = { s.closeFamily f x with descriptors := l } := by
  unfold State.closeFamily
  have e : State.isCurrent { s with descriptors := l, families := Table.erase s.families f } x.issuer x.issuerGeneration =
    State.isCurrent { s with families := Table.erase s.families f } x.issuer x.issuerGeneration := rfl
  simp only
  rw [e]
  cases (x.reportOnClose &&
    State.isCurrent { s with families := Table.erase s.families f } x.issuer x.issuerGeneration)
  · rfl
  · exact State.callReport_withDescriptors { s with families := Table.erase s.families f } l _ _

theorem State.lowerLive_withDescriptors (s : State) (l : Table Descriptor) (f : Nat) :
    State.lowerLive { s with descriptors := l } f = { s.lowerLive f with descriptors := l } := by
  have e : State.family { s with descriptors := l } f = s.family f := rfl
  unfold State.lowerLive
  rw [e]
  cases s.family f with
  | none => rfl
  | some x =>
    simp only
    by_cases h : x.live ≤ 1
    · rw [if_pos h, if_pos h]
      exact State.closeFamily_withDescriptors s l f x
    · rw [if_neg h, if_neg h]
      rfl

/-! ### Ports -/

theorem State.callReport_withPorts (s : State) (l : Bank PortLink) (t : StationId) (c : ReportContent) :
    State.callReport { s with ports := l } t c = { s.callReport t c with ports := l } := by
  have e1 : State.isEnabled { s with ports := l } t = s.isEnabled t := rfl
  have e2 : State.queue { s with ports := l } t 0 = s.queue t 0 := rfl
  have e3 : ∀ q, State.canPlace { s with ports := l } q = s.canPlace q := fun _ => rfl
  unfold State.callReport
  rw [e1, e2]
  cases s.isEnabled t
  · rfl
  · cases s.queue t 0 with
    | none => rfl
    | some q =>
      simp only [e3]
      cases s.canPlace q
      · rfl
      · simp only [if_true, State.placeReport]
        cases q.list.isEmpty <;> rfl

theorem State.closeFamily_withPorts (s : State) (l : Bank PortLink) (f : Nat) (x : Family) :
    State.closeFamily { s with ports := l } f x = { s.closeFamily f x with ports := l } := by
  unfold State.closeFamily
  have e : State.isCurrent { s with ports := l, families := Table.erase s.families f } x.issuer x.issuerGeneration =
    State.isCurrent { s with families := Table.erase s.families f } x.issuer x.issuerGeneration := rfl
  simp only
  rw [e]
  cases (x.reportOnClose &&
    State.isCurrent { s with families := Table.erase s.families f } x.issuer x.issuerGeneration)
  · rfl
  · exact State.callReport_withPorts { s with families := Table.erase s.families f } l _ _

theorem State.lowerLive_withPorts (s : State) (l : Bank PortLink) (f : Nat) :
    State.lowerLive { s with ports := l } f = { s.lowerLive f with ports := l } := by
  have e : State.family { s with ports := l } f = s.family f := rfl
  unfold State.lowerLive
  rw [e]
  cases s.family f with
  | none => rfl
  | some x =>
    simp only
    by_cases h : x.live ≤ 1
    · rw [if_pos h, if_pos h]
      exact State.closeFamily_withPorts s l f x
    · rw [if_neg h, if_neg h]
      rfl

theorem State.reservedSlot_withPorts (s : State) (l : Bank PortLink) (t : StationId) (n d : Nat) :
    State.reservedSlot { s with ports := l } t n d = s.reservedSlot t n d := rfl

theorem State.freeReserved_withPorts (s : State) (l : Bank PortLink) (t : StationId) (n d : Nat) :
    State.freeReserved { s with ports := l } t n d = { s.freeReserved t n d with ports := l } := by
  unfold State.freeReserved
  rw [State.reservedSlot_withPorts]
  cases s.reservedSlot t n d with
  | none => rfl
  | some x => exact State.lowerLive_withPorts (s.vacateSlot t n) l _

theorem State.settleQueue_withPorts (s : State) (l : Bank PortLink) (t : StationId) (q : Nat) :
    State.settleQueue { s with ports := l } t q = { s.settleQueue t q with ports := l } := by
  have e : State.queue { s with ports := l } t q = s.queue t q := rfl
  unfold State.settleQueue
  rw [e]
  cases s.queue t q with
  | none => rfl
  | some x =>
    simp only
    cases (x.state == .purging && x.passComplete && x.heldMessages == 0)
    · rfl
    · simp only [if_true, State.dropQueue]
      by_cases h : q = 0
      · rw [if_pos h, if_pos h]
      · rw [if_neg h, if_neg h]

theorem State.releaseHeld_withPorts (s : State) (l : Bank PortLink) (t : StationId) (q c : Nat) (pl : HeldPlace) :
    State.releaseHeld { s with ports := l } t q c pl = { s.releaseHeld t q c pl with ports := l } := by
  have e : State.queue { s with ports := l } t q = s.queue t q := rfl
  unfold State.releaseHeld
  rw [e]
  cases s.queue t q with
  | none => rfl
  | some x =>
    exact State.settleQueue_withPorts
      { s.setQueue t q
          { x with
            outstanding := if pl = .outstanding then x.outstanding - 1 else x.outstanding
            heldMessages := x.heldMessages - 1
            heldCells := x.heldCells - c } with
        heldCells := Bank.set s.heldCells t (Bank.get s.heldCells t - c) } l t q

theorem State.freeEntry_withPorts (s : State) (l : Bank PortLink) (e : EntryRef) (pl : HeldPlace) :
    State.freeEntry { s with ports := l } e .withdrawn pl = { s.freeEntry e .withdrawn pl with ports := l } := by
  cases e with
  | report r =>
    have e : State.report { s with ports := l } r = s.report r := rfl
    unfold State.freeEntry
    simp only [e]
    cases s.report r with
    | none => rfl
    | some x => exact State.releaseHeld_withPorts { s with reports := _, freeReports := _ } l _ _ _ _
  | message d =>
    have e : State.descriptor { s with ports := l } d = s.descriptor d := rfl
    unfold State.freeEntry
    simp only [e]
    cases s.descriptor d with
    | none => rfl
    | some x =>
      have key : ∀ a : State, State.releaseHeld
          { (({ a with ports := l } : State)) with
            descriptors := Table.erase a.descriptors d
            freeDescriptors := a.freeDescriptors + 1
            freeCells := a.freeCells + x.cells }
          x.target x.queue x.cells pl =
        { State.releaseHeld
            { a with
              descriptors := Table.erase a.descriptors d
              freeDescriptors := a.freeDescriptors + 1
              freeCells := a.freeCells + x.cells }
            x.target x.queue x.cells pl with ports := l } := fun a =>
        State.releaseHeld_withPorts { a with descriptors := _, freeDescriptors := _, freeCells := _ } l _ _ _ _
      show State.freeDescriptor { s with ports := l } d x .withdrawn pl =
        { s.freeDescriptor d x .withdrawn pl with ports := l }
      unfold State.freeDescriptor
      cases x.grant with
      | none => exact key s
      | some g =>
        simp only [State.releaseGrant]
        cases g.state with
        | inTransit => simp only [State.lowerLive_withPorts]; exact key _
        | reserved n => simp only [State.freeReserved_withPorts]; exact key _
        | void r => exact key s

theorem State.clearSeq_withPorts (s : State) (l : Bank PortLink) (e : EntryRef) :
    State.clearSeq { s with ports := l } e = { s.clearSeq e with ports := l } := by
  cases e with
  | message d =>
    have e : State.descriptor { s with ports := l } d = s.descriptor d := rfl
    unfold State.clearSeq; simp only [e]; cases s.descriptor d <;> rfl
  | report d =>
    have e : State.report { s with ports := l } d = s.report d := rfl
    unfold State.clearSeq; simp only [e]; cases s.report d <;> rfl

theorem State.handBackOne_withPorts (s : State) (l : Bank PortLink) (done : List EntryRef) (e : EntryRef) :
    State.handBackOne { s with ports := l } done e = { s.handBackOne done e with ports := l } := by
  have e1 : State.entryQueue { s with ports := l } e = s.entryQueue e := by cases e <;> rfl
  unfold State.handBackOne
  rw [e1]
  cases s.entryQueue e with
  | none => rfl
  | some tq =>
    obtain ⟨t, q⟩ := tq
    have e2 : State.queue { s with ports := l } t q = s.queue t q := rfl
    have e3 : State.handedBack { s with ports := l } done t q = s.handedBack done t q := by
      unfold State.handedBack; congr 1
    simp only [e2, e3]
    cases s.queue t q with
    | none => rfl
    | some x =>
      simp only
      by_cases h : x.state = .purging
      · rw [if_pos h, if_pos h]; exact State.freeEntry_withPorts s l e _
      · rw [if_neg h, if_neg h]
        unfold State.returnEntry
        rw [State.clearSeq_withPorts]
        cases x.list.isEmpty <;> rfl

/-- The return of deliveries at a session end reads nothing of the ports. -/
theorem State.handBack_withPorts (s : State) (l : Bank PortLink) (done r : List EntryRef) :
    State.handBack { s with ports := l } done r = { s.handBack done r with ports := l } := by
  induction r generalizing s done with
  | nil => rfl
  | cons e r ih =>
    unfold State.handBack
    rw [State.handBackOne_withPorts, ih]

end Sys2Proof.Machine
end

