-- ==== Sys2Proof/Laws/Claims.lean ====
section
/-! SUPPORT. The words of the statements and the operations of the model: each function and relation in which the
statements say an effect is what the model's own operation does. -/

namespace Sys2Proof.Claims

open Sys2Proof.Machine

/-! ### Reports, copies and entries -/

theorem isEnabled_iff (s : State) (u : StationId) : s.isEnabled u = true ↔ Enabled s u := by
  simp [State.isEnabled]

theorem holdsManage_iff (s : State) (u : StationId) : s.holdsManage u = true ↔ Manager s u := by
  simp [State.holdsManage, State.isEnabled]

theorem isCurrent_iff (s : State) (u : StationId) (g : Nat) : s.isCurrent u g = true ↔ Current s u g := by
  simp [State.isCurrent, State.isEnabled]

theorem withReport_eq (s : State) (u : StationId) (q : Queue) (c : ReportContent) :
    withReport s u q c = s.placeReport u q c := by
  unfold withReport State.placeReport joinedIfEmpty
  by_cases h : q.list = []
  · simp [h, State.joinActive, State.setQueue, State.setStation, State.setReport, State.setScheduler, withQueue,
      State.scheduler, State.station]
  · have : q.list.isEmpty = false := by simp [h]
    simp [h, State.setQueue, State.setStation, State.setReport, withQueue, State.station]

theorem withLostReport_eq (s : State) (u : StationId) : withLostReport s u = s.missReport u := rfl

theorem reported_eq (s : State) (u : StationId) (c : ReportContent) : reported s u c = s.callReport u c := by
  unfold reported State.callReport
  by_cases h : s.isEnabled u = true
  · rw [if_pos ((isEnabled_iff s u).1 h), if_pos h]
    cases hq : s.queue u 0 with
    | none => rfl
    | some q =>
      have e : s.canPlace q = true ↔ s.freeReports ≠ 0 ∧ q.heldMessages < 32 := by
        simp only [State.canPlace, Config.reportDepth, bne_iff_ne, ne_eq, Bool.and_eq_true]
        exact and_congr_right fun _ => decide_eq_true_iff
      simp only [withReport_eq, withLostReport_eq]
      by_cases k : s.freeReports ≠ 0 ∧ q.heldMessages < 32
      · rw [if_pos k, if_pos (e.2 k)]
      · rw [if_neg k, if_neg (fun h => k (e.1 h))]
  · rw [if_neg (fun k => h ((isEnabled_iff s u).2 k)), if_neg h]

theorem familyClosed_eq (s : State) (f : Nat) (y : Family) : familyClosed s f y = s.closeFamily f y := by
  unfold familyClosed State.closeFamily
  have e : (y.reportOnClose &&
      State.isCurrent { s with families := Table.erase s.families f } y.issuer y.issuerGeneration) = true ↔
      y.reportOnClose = true ∧ Current s y.issuer y.issuerGeneration := by
    rw [Bool.and_eq_true, isCurrent_iff]; rfl
  by_cases h : y.reportOnClose = true ∧ Current s y.issuer y.issuerGeneration
  · rw [if_pos h, if_pos (e.2 h), reported_eq]
    simp only [beq_iff_eq]
  · rw [if_neg h, if_neg (fun k => h (e.1 k))]

theorem copyEnded_eq (s : State) (f : Nat) (y : Family) (h : s.family f = some y) :
    copyEnded s f y = s.lowerLive f := by
  unfold copyEnded State.lowerLive
  simp only [h]
  by_cases l : 1 < y.live
  · rw [if_pos l, if_neg (by omega)]; rfl
  · rw [if_neg l, if_pos (by omega), familyClosed_eq]

theorem slotVacated_eq (s : State) (t : StationId) (n : Nat) : slotVacated s t n = s.vacateSlot t n := rfl

theorem settled_eq (s : State) (u : StationId) (q : Nat) (x : Queue) :
    settled s u q x = (s.setQueue u q x).settleQueue u q := by
  unfold settled State.settleQueue
  have hq : (s.setQueue u q x).queue u q = some x := by simp
  rw [hq]
  by_cases h : x.state = .purging ∧ x.passComplete = true ∧ x.heldMessages = 0
  · rw [if_pos h]
    simp [h.1, h.2.1, h.2.2, State.dropQueue, State.setQueue]
    by_cases h0 : q = 0 <;> simp [h0]
  · rw [if_neg h]
    have h' : (x.state == .purging && x.passComplete && x.heldMessages == 0) = false := by
      rw [Bool.eq_false_iff]; intro k; simp only [Bool.and_eq_true, beq_iff_eq] at k; exact h ⟨k.1.1, k.1.2, k.2⟩
    simp only [h']; rfl

/-- Where an entry that a session end or an ACK frees stands, and where one that a queue pass frees stands. -/
def placeOf (out : Bool) : HeldPlace := if out then .outstanding else .listed

theorem heldReleased_eq (s : State) (u : StationId) (q cells : Nat) (out : Bool) :
    heldReleased s u q cells out = s.releaseHeld u q cells (placeOf out) := by
  unfold heldReleased State.releaseHeld
  cases hq : s.queue u q with
  | none => rfl
  | some x => cases out <;> simp only [settled_eq] <;> rfl

theorem messageReleased_eq (s : State) (d : Nat) (m : Descriptor) (out : Bool) :
    messageReleased s d m out =
      State.releaseHeld
        { s with descriptors := Table.erase s.descriptors d, freeDescriptors := s.freeDescriptors + 1,
                 freeCells := s.freeCells + m.cells } m.target m.queue m.cells (placeOf out) :=
  heldReleased_eq _ _ _ _ _

theorem reportReleased_eq (s : State) (k : Nat) (m : ReportRecord) (out : Bool) :
    reportReleased s k m out = s.freeReport k m (placeOf out) :=
  heldReleased_eq _ _ _ _ _

theorem reservedSlot_some (s : State) (t : StationId) (n d : Nat) (z : Slot) (h : s.slot t n = some z)
    (h2 : z.status = .reserved d) : s.reservedSlot t n d = some z := by
  simp [State.reservedSlot, h, h2]

/-- The spec relation is what the freeing operation does. -/
theorem Withdrawn.freeEntry {s : State} {out : Bool} {e : EntryRef} {k : Nat} {h : State} (w : Withdrawn s out e k h) :
    s.freeEntry e .withdrawn (placeOf out) = h ∧ k = (if s.holdsReserved e then 1 else 0) := by
  cases w with
  | plain d m hd hg =>
    rcases hg with hg | ⟨g, r, hg, hs⟩
    · simp [State.freeEntry, hd, State.freeDescriptor, hg, messageReleased_eq, State.holdsReserved]
    · simp [State.freeEntry, hd, State.freeDescriptor, hg, hs, State.releaseGrant, messageReleased_eq, State.holdsReserved]
  | inTransit d m g y hd hg hs hf =>
    simp [State.freeEntry, hd, State.freeDescriptor, hg, hs, State.releaseGrant, messageReleased_eq, State.holdsReserved,
      copyEnded_eq s g.family y hf]
  | reserved d m g n z y hd hg hs hz ht hf =>
    have hr := reservedSlot_some s m.target n d z hz ht
    have hc : copyEnded (slotVacated s m.target n) z.family y = s.freeSlot m.target n z :=
      copyEnded_eq _ _ _ hf
    simp [State.freeEntry, hd, State.freeDescriptor, hg, hs, State.releaseGrant, messageReleased_eq, State.holdsReserved,
      State.freeReserved, hr, hc]
  | report r m hr =>
    simp [State.freeEntry, hr, reportReleased_eq, State.holdsReserved]

theorem seqCleared_eq (s : State) (e : EntryRef) : seqCleared s e = s.clearSeq e := by
  cases e <;> rfl

theorem entryReturned_eq (s : State) (u : StationId) (q : Nat) (x : Queue) (e : EntryRef) (k : Nat) :
    entryReturned s u q x e k = s.returnEntry u q x e k := by
  unfold entryReturned State.returnEntry joinedIfEmpty
  rw [seqCleared_eq]
  have h1 : (s.clearSeq e).queues = s.queues := by unfold State.clearSeq; split <;> split <;> rfl
  have h2 : (s.clearSeq e).schedulers = s.schedulers := by unfold State.clearSeq; split <;> split <;> rfl
  by_cases h : x.list = []
  · simp [h, State.joinActive, State.setQueue, State.setScheduler, withQueue, State.scheduler, h1, h2]
  · have : x.list.isEmpty = false := by simp [h]
    simp [h, State.setQueue, withQueue, h1, h2]

theorem HandedBack.eq {s : State} {done rest : List EntryRef} {h : State} (w : HandedBack s done rest h) :
    s.handBack done rest = h := by
  induction w with
  | none s done => rfl
  | freed s a b done rest e u q slots x he hq hp hw hb ih =>
    have := hw.freeEntry.1
    rw [State.handBack, State.handBackOne]
    simp only [he, hq, hp, if_true]
    rw [show HeldPlace.outstanding = placeOf true from rfl, this]
    exact ih
  | returned s b done rest e u q x he hq hp hb ih =>
    rw [State.handBack, State.handBackOne]
    simp only [he, hq, if_neg hp]
    rw [entryReturned_eq] at ih
    have : State.handedBack s done u q = done.countP (fun c => decide (s.entryQueue c = some (u, q))) := by
      unfold State.handedBack; congr 1; funext c
      rw [Bool.eq_iff_iff, beq_iff_eq, decide_eq_true_eq]
    rw [this]; exact ih

theorem fenceReported_eq (s : State) (p : PortId) (cause : FenceCause) :
    fenceReported s p cause = s.callReports (.portFenced p cause) (s.fenceRecipients p) := by
  have hl : (List.finRange 8).filter (fun u => decide (Manager s u ∧ u ≠ p)) = s.fenceRecipients p := by
    unfold State.fenceRecipients stationsInOrder
    congr 1; funext u
    rw [Bool.eq_iff_iff, decide_eq_true_eq, Bool.and_eq_true, holdsManage_iff, bne_iff_ne]
  unfold fenceReported
  rw [hl]
  clear hl
  generalize s.fenceRecipients p = l
  induction l generalizing s with
  | nil => rfl
  | cons u r ih => rw [List.foldl_cons, reported_eq, State.callReports]; exact ih _

/-! ### A report called for, by its case -/

theorem reported_placed {s : State} {u : StationId} {q : Queue} (c : ReportContent) (h : Enabled s u)
    (hq : s.queue u 0 = some q) (hr : s.freeReports ≠ 0) (hm : q.heldMessages < 32) :
    reported s u c = withReport s u q c := by
  simp only [reported, if_pos h, hq, if_pos (And.intro hr hm)]

theorem reported_lost {s : State} {u : StationId} {q : Queue} (c : ReportContent) (h : Enabled s u)
    (hq : s.queue u 0 = some q) (hr : s.freeReports = 0 ∨ 32 ≤ q.heldMessages) :
    reported s u c = withLostReport s u := by
  have : ¬ (s.freeReports ≠ 0 ∧ q.heldMessages < 32) := by omega
  simp only [reported, if_pos h, hq, if_neg this]

theorem familyClosed_reported {s : State} {f : Nat} {y : Family} (hr : y.reportOnClose = true)
    (hc : Current s y.issuer y.issuerGeneration) :
    familyClosed s f y =
      reported { s with families := Table.erase s.families f } y.issuer
        (.familyClosed f y.tag (if y.state = .opened then .released else .revoked)) :=
  if_pos ⟨hr, hc⟩

theorem familyClosed_silent {s : State} {f : Nat} {y : Family}
    (h : y.reportOnClose = false ∨ ¬ Current s y.issuer y.issuerGeneration) :
    familyClosed s f y = { s with families := Table.erase s.families f } := by
  refine if_neg ?_
  rintro ⟨hr, hc⟩
  rcases h with h | h
  · rw [hr] at h
    exact nomatch h
  · exact h hc

/-! ### Sweeps -/

theorem sweepFinished_eq (s : State) (x : Sweep) : sweepFinished s x = s.endSweep x := by
  unfold sweepFinished State.endSweep
  by_cases h : ToldTo s x
  · rw [if_pos h, if_pos ((isCurrent_iff _ _ _).2 h), reported_eq]; rfl
  · rw [if_neg h, if_neg (fun k => h ((isCurrent_iff _ _ _).1 k))]; rfl

theorem queueMarked_eq (s : State) (t : StationId) (q : Nat) : queueMarked s t q = s.setMark t q := by
  unfold queueMarked State.setMark
  cases s.queue t q with
  | none => rfl
  | some y => exact settled_eq _ _ _ _

theorem evictDone_eq (s : State) (t : StationId) : evictDone s t = s.completeEvict t := rfl

/-- A record of a canonical table stands at a number above the first one's, or is the first. -/
theorem first_lt_of_find (l : Table Queue) (k : Nat) (z : Queue) (hc : Table.canonical ((k, z) :: l) = true) (q : Nat)
    (y : Queue) (hf : Table.find l q = some y) : k < q := by
  induction l generalizing k z with
  | nil => simp [Table.find] at hf
  | cons b r ih =>
    simp [Table.canonical] at hc
    by_cases e : b.1 = q
    · omega
    · have := ih b.1 b.2 (by simpa using hc.2) (by simpa [Table.find, e] using hf)
      omega

/-- The search for the next PURGING queue stops at the lowest one. -/
theorem find_lowest {l : Table Queue} (hc : Table.canonical l = true) (least q : Nat) (y : Queue)
    (hq : Table.find l q = some y) (hy : y.state = .purging) (hl : least ≤ q)
    (hn : ∀ e ∈ l, least ≤ e.1 → e.1 < q → e.2.state ≠ .purging) :
    l.find? (fun e => decide (least ≤ e.1) && e.2.state == .purging) = some (q, y) := by
  induction l with
  | nil => simp [Table.find] at hq
  | cons a r ih =>
    obtain ⟨k, z⟩ := a
    have hcr : Table.canonical r = true := by
      cases r with
      | nil => rfl
      | cons b r => simp [Table.canonical] at hc; exact hc.2
    by_cases hk : k = q
    · subst hk
      simp [Table.find] at hq; subst hq
      simp [hl, hy]
    · simp [Table.find, hk] at hq
      have hlt : k < q := first_lt_of_find r k z hc q y hq
      have hne : (decide (least ≤ k) && z.state == .purging) = false := by
        rw [Bool.eq_false_iff]; intro h; simp at h
        exact hn (k, z) (by simp) h.1 hlt h.2
      rw [List.find?_cons_of_neg (by simpa using hne)]
      exact ih hcr hq (fun e he => hn e (by simp [he]))

theorem nextPurging_eq {s : State} {u : StationId} {least q : Nat} (h : NextPurging s u least q) :
    s.nextPurging u least = some q := by
  obtain ⟨hc, hl, ⟨y, hq, hy⟩, hn⟩ := h
  unfold State.nextPurging
  rw [find_lowest hc least q y hq hy hl hn]; rfl

theorem noPurging_eq {s : State} {u : StationId} {q : Nat}
    (h : ∀ e ∈ Bank.get s.queues u, q < e.1 → e.2.state ≠ .purging) :
    s.nextPurging u (q + 1) = none := by
  unfold State.nextPurging
  rw [List.find?_eq_none.2]; · rfl
  intro e he hk
  simp at hk
  exact h e he (by omega) hk.2

/-- A step of the queue pass once the list has become empty. -/
theorem LastFreed.step {s : State} {x : Sweep} {t : StationId} {q : Nat} {y : Queue} {h : State} {x' : Sweep}
    (hx : s.sweep = some x) (hc : x.cursor = .queuePass t q) (hq : s.queue t q = some y)
    (w : LastFreed s x t q y h x') :
    s.queueStep = (h.setMark t q).leaveQueue x' t q ∧ x'.subject = x.subject := by
  cases w with
  | empty hl => simp [State.queueStep, hx, hc, hq, hl]
  | last e slots h hl hw =>
    have hf := hw.freeEntry
    have hr : (s.setQueue t q { y with list := [] }).holdsReserved e.ref = s.holdsReserved e.ref := rfl
    rw [show withQueue s t q { y with list := [] } = s.setQueue t q { y with list := [] } from rfl] at hf
    rw [hr] at hf
    refine ⟨?_, rfl⟩
    simp only [State.queueStep, hx, hc, hq, hl, State.sweepEntry]
    rw [show HeldPlace.listed = placeOf false from rfl, hf.1]
    simp only [List.isEmpty_nil, if_true]
    congr 1
    rw [hf.2]; split <;> rfl

/-- A step of the slot pass on a slot of this kind (R127). -/
theorem SlotReached.step {s : State} {x x' : Sweep} {t : StationId} {n : Nat} {h : State} (hx : s.sweep = some x)
    (hc : x.cursor = .slotPass t n) (w : SlotReached s x t n h x') :
    s.slotStep = h.advanceSlot x' t n ∧ x'.subject = x.subject := by
  have tb : ∀ z, s.isToBeFreed x t z = true ↔ ToBeFreed s x t z := by
    intro z
    simp only [State.isToBeFreed, Bool.or_eq_true, beq_iff_eq, Option.any_eq_true, ToBeFreed]
  cases w with
  | passed hn =>
    refine ⟨?_, rfl⟩
    simp only [State.slotStep, hx, hc]
    cases hz : s.slot t n with
    | none => rfl
    | some z => simp only [if_neg (fun k => hn z hz ((tb z).1 k))]
  | defined z y hz hb hf hd =>
    refine ⟨?_, rfl⟩
    simp only [State.slotStep, hx, hc, hz, if_pos ((tb z).2 hb), State.sweepSlot, hd]
    rw [copyEnded_eq _ _ _ (show (slotVacated s t n).family z.family = some y from hf)]; rfl
  | reserved z y d k g hz hb hf hd hk hg hr =>
    refine ⟨?_, rfl⟩
    simp only [State.slotStep, hx, hc, hz, if_pos ((tb z).2 hb), State.sweepSlot, hd]
    rw [copyEnded_eq _ _ _ (show (slotVacated s t n).family z.family = some y from hf)]
    congr 1
    simp only [State.voidReserved, hk, hg, hr, beq_self_eq_true, if_true]
    exact State.lowerLive_withDescriptors (s.vacateSlot t n) _ _

end Sys2Proof.Claims
end

