-- ==== Sys2Proof/Laws/Frames.lean ====
section
/-! SUPPORT. Lemmas of frames and fields: a sealed frame passes the frame check, and a field reads back as written. -/

namespace Sys2Proof

@[simp] theorem crcField_length (bs : List Byte) : (crcField bs).length = 4 := rfl

@[simp] theorem sealFrame_length (bs : List Byte) : (sealFrame bs).length = bs.length + 4 := by
  simp [sealFrame]

@[simp] theorem withoutCrc_sealFrame (bs : List Byte) : withoutCrc (sealFrame bs) = bs := by
  simp [withoutCrc, sealFrame]

/-- A sealed frame of at least one byte passes the frame check (R197). -/
theorem crcOk_sealFrame (bs : List Byte) (h : bs ≠ []) : crcOk (sealFrame bs) = true := by
  have h1 : 1 ≤ bs.length := List.length_pos_iff.mpr h
  unfold crcOk
  rw [withoutCrc_sealFrame, sealFrame_length]
  have : (sealFrame bs).drop (bs.length + 4 - 4) = crcField bs := by simp [sealFrame]
  rw [this]
  simp
  omega

/-- A content that passes the frame check is a sealed frame (R197). -/
theorem eq_sealFrame_of_crcOk (content : List Byte) (h : crcOk content = true) :
    content = sealFrame (withoutCrc content) := by
  unfold crcOk at h
  simp only [Bool.and_eq_true, decide_eq_true_eq, beq_iff_eq] at h
  unfold sealFrame
  rw [← h.2]
  exact (List.take_append_drop _ _).symm

/-- What a sealed frame within the longest content is (R163, R197). -/
theorem classify_sealFrame (bs : List Byte) (h : bs ≠ []) (hl : bs.length + 4 ≤ 512) :
    classify (sealFrame bs) = readFrame bs := by
  unfold classify
  rw [crcOk_sealFrame bs h, sealFrame_length, withoutCrc_sealFrame]
  simp [Config.contentMax, hl]

namespace Machine

theorem number16_lt (hi lo : Byte) : number16 hi lo < 65536 := by
  have h1 := hi.isLt
  have h2 := lo.isLt
  unfold number16
  omega

/-- A number of two bytes reads back as written (section 10.3). -/
theorem number16_bytes (n : Nat) (h : n < 65536) :
    number16 (BitVec.ofNat 8 (n / 256)) (BitVec.ofNat 8 n) = n := by
  simp [number16]
  omega

/-- A rights byte reads back as written (section 10.3). -/
theorem readRights_byte (r : Rights) : readRights r.byte = some r := by
  rcases r with ⟨_ | _, _ | _, _ | _, _ | _⟩ <;> decide

end Machine

end Sys2Proof
end

