-- ==== Sys2Proof/WellFormed.lean ====
section
/-! DEFINITION. Well-formed commands: an arrival's content is a frame of the kind its row names (R163). Ports are
0..7 by their type. A LINK OPEN with an unusable session number is a LINK OPEN frame that cannot be read (R159), so
both rows may carry it. -/

namespace Sys2Proof

/-- The frame content an arrival carries; none for every other command. -/
def Instr.content : Instr → Option (List Byte)
  | .crcErrorFrame _ c | .unreadableFrame _ c | .linkOpen _ c | .linkClose _ c | .linkPing _ c | .ingressArrival _ c
  | .ack _ c => some c
  | _ => none

/-- The checks of a command. -/
def Instr.wf : Instr → Bool
  | .crcErrorFrame _ c => classify c == .crcError
  | .unreadableFrame _ c => classify c == .unreadable || classify c == .badLinkOpen
  | .linkOpen _ c =>
    match classify c with
    | .linkOpen _ | .badLinkOpen => true
    | _ => false
  | .linkClose _ c => classify c == .linkClose
  | .linkPing _ c => classify c == .linkPing
  | .ingressArrival _ c =>
    match classify c with
    | .ingress _ => true
    | _ => false
  | .ack _ c =>
    match classify c with
    | .ack _ => true
    | _ => false
  | .resetN | .signalDetect _ | .signalLoss _ | .admission _ | .issueGrant _ | .dropGrant _ | .installGrant _
  | .readGrant _ | .readFamily _ | .openQueue _ | .sealQueue _ | .unsealQueue _ | .setDepth _ | .readQueue _
  | .readPool _ | .setBand _ | .setQuanta _ | .setDeliveryTiming _ | .revokeFamily _ | .purgeQueue _
  | .evictStation _ | .readSweep _ | .releasePort _ | .readPort _ | .setPortLimit _ | .enableStation _
  | .setLimits _ | .setManage _ | .readStation _ | .readDevice _ | .clearTables _ | .unknownRequest _
  | .selection _ | .expiry _ | .egressArbitration _ | .slotPassStep | .queuePassStep => true

end Sys2Proof
end

