-- ==== Sys2Proof/Laws/PerInstr.lean ====
section
/-! SUPPORT. One lemma per command: no word of the opcode table spells it, and a command that carries no frame is well
formed. -/

namespace Sys2Proof.Laws.Content

/-- No word spells the command, since the table gives no row any bits (log 8); a command without a frame's content is
well formed. -/
def Statement (i : Instr) : Prop :=
  (∀ nbits w : Nat, decodeTableWord nbits w ≠ some i) ∧ (i.content = none → i.wf = true)

theorem resetN : Statement (.resetN) :=
  ⟨fun _ _ h => (nomatch h), fun _ => rfl⟩

theorem signalDetect (p : PortId) : Statement (.signalDetect p) :=
  ⟨fun _ _ h => (nomatch h), fun _ => rfl⟩

theorem signalLoss (p : PortId) : Statement (.signalLoss p) :=
  ⟨fun _ _ h => (nomatch h), fun _ => rfl⟩

theorem crcErrorFrame (p : PortId) (content : List Byte) : Statement (.crcErrorFrame p content) :=
  ⟨fun _ _ h => (nomatch h), fun h => (nomatch h)⟩

theorem unreadableFrame (p : PortId) (content : List Byte) : Statement (.unreadableFrame p content) :=
  ⟨fun _ _ h => (nomatch h), fun h => (nomatch h)⟩

theorem linkOpen (p : PortId) (content : List Byte) : Statement (.linkOpen p content) :=
  ⟨fun _ _ h => (nomatch h), fun h => (nomatch h)⟩

theorem linkClose (p : PortId) (content : List Byte) : Statement (.linkClose p content) :=
  ⟨fun _ _ h => (nomatch h), fun h => (nomatch h)⟩

theorem linkPing (p : PortId) (content : List Byte) : Statement (.linkPing p content) :=
  ⟨fun _ _ h => (nomatch h), fun h => (nomatch h)⟩

theorem ingressArrival (p : PortId) (content : List Byte) : Statement (.ingressArrival p content) :=
  ⟨fun _ _ h => (nomatch h), fun h => (nomatch h)⟩

theorem ack (p : PortId) (content : List Byte) : Statement (.ack p content) :=
  ⟨fun _ _ h => (nomatch h), fun h => (nomatch h)⟩

theorem admission (p : PortId) : Statement (.admission p) :=
  ⟨fun _ _ h => (nomatch h), fun _ => rfl⟩

theorem issueGrant (p : PortId) : Statement (.issueGrant p) :=
  ⟨fun _ _ h => (nomatch h), fun _ => rfl⟩

theorem dropGrant (p : PortId) : Statement (.dropGrant p) :=
  ⟨fun _ _ h => (nomatch h), fun _ => rfl⟩

theorem installGrant (p : PortId) : Statement (.installGrant p) :=
  ⟨fun _ _ h => (nomatch h), fun _ => rfl⟩

theorem readGrant (p : PortId) : Statement (.readGrant p) :=
  ⟨fun _ _ h => (nomatch h), fun _ => rfl⟩

theorem readFamily (p : PortId) : Statement (.readFamily p) :=
  ⟨fun _ _ h => (nomatch h), fun _ => rfl⟩

theorem openQueue (p : PortId) : Statement (.openQueue p) :=
  ⟨fun _ _ h => (nomatch h), fun _ => rfl⟩

theorem sealQueue (p : PortId) : Statement (.sealQueue p) :=
  ⟨fun _ _ h => (nomatch h), fun _ => rfl⟩

theorem unsealQueue (p : PortId) : Statement (.unsealQueue p) :=
  ⟨fun _ _ h => (nomatch h), fun _ => rfl⟩

theorem setDepth (p : PortId) : Statement (.setDepth p) :=
  ⟨fun _ _ h => (nomatch h), fun _ => rfl⟩

theorem readQueue (p : PortId) : Statement (.readQueue p) :=
  ⟨fun _ _ h => (nomatch h), fun _ => rfl⟩

theorem readPool (p : PortId) : Statement (.readPool p) :=
  ⟨fun _ _ h => (nomatch h), fun _ => rfl⟩

theorem setBand (p : PortId) : Statement (.setBand p) :=
  ⟨fun _ _ h => (nomatch h), fun _ => rfl⟩

theorem setQuanta (p : PortId) : Statement (.setQuanta p) :=
  ⟨fun _ _ h => (nomatch h), fun _ => rfl⟩

theorem setDeliveryTiming (p : PortId) : Statement (.setDeliveryTiming p) :=
  ⟨fun _ _ h => (nomatch h), fun _ => rfl⟩

theorem revokeFamily (p : PortId) : Statement (.revokeFamily p) :=
  ⟨fun _ _ h => (nomatch h), fun _ => rfl⟩

theorem purgeQueue (p : PortId) : Statement (.purgeQueue p) :=
  ⟨fun _ _ h => (nomatch h), fun _ => rfl⟩

theorem evictStation (p : PortId) : Statement (.evictStation p) :=
  ⟨fun _ _ h => (nomatch h), fun _ => rfl⟩

theorem readSweep (p : PortId) : Statement (.readSweep p) :=
  ⟨fun _ _ h => (nomatch h), fun _ => rfl⟩

theorem releasePort (p : PortId) : Statement (.releasePort p) :=
  ⟨fun _ _ h => (nomatch h), fun _ => rfl⟩

theorem readPort (p : PortId) : Statement (.readPort p) :=
  ⟨fun _ _ h => (nomatch h), fun _ => rfl⟩

theorem setPortLimit (p : PortId) : Statement (.setPortLimit p) :=
  ⟨fun _ _ h => (nomatch h), fun _ => rfl⟩

theorem enableStation (p : PortId) : Statement (.enableStation p) :=
  ⟨fun _ _ h => (nomatch h), fun _ => rfl⟩

theorem setLimits (p : PortId) : Statement (.setLimits p) :=
  ⟨fun _ _ h => (nomatch h), fun _ => rfl⟩

theorem setManage (p : PortId) : Statement (.setManage p) :=
  ⟨fun _ _ h => (nomatch h), fun _ => rfl⟩

theorem readStation (p : PortId) : Statement (.readStation p) :=
  ⟨fun _ _ h => (nomatch h), fun _ => rfl⟩

theorem readDevice (p : PortId) : Statement (.readDevice p) :=
  ⟨fun _ _ h => (nomatch h), fun _ => rfl⟩

theorem clearTables (p : PortId) : Statement (.clearTables p) :=
  ⟨fun _ _ h => (nomatch h), fun _ => rfl⟩

theorem unknownRequest (p : PortId) : Statement (.unknownRequest p) :=
  ⟨fun _ _ h => (nomatch h), fun _ => rfl⟩

theorem selection (p : PortId) : Statement (.selection p) :=
  ⟨fun _ _ h => (nomatch h), fun _ => rfl⟩

theorem expiry (p : PortId) : Statement (.expiry p) :=
  ⟨fun _ _ h => (nomatch h), fun _ => rfl⟩

theorem egressArbitration (p : PortId) : Statement (.egressArbitration p) :=
  ⟨fun _ _ h => (nomatch h), fun _ => rfl⟩

theorem slotPassStep : Statement (.slotPassStep) :=
  ⟨fun _ _ h => (nomatch h), fun _ => rfl⟩

theorem queuePassStep : Statement (.queuePassStep) :=
  ⟨fun _ _ h => (nomatch h), fun _ => rfl⟩

end Sys2Proof.Laws.Content
end

