-- ==== Sys2Proof/Laws/Time.lean ====
section
/-! SUPPORT. The expiry of a delivery timer and the passing of a unit of time, by their cases. -/

namespace Sys2Proof.Machine

theorem State.expiryDue_iff (s : State) (p : PortId) : s.expiryDue p = true ↔ (s.window p).timer = some 0 := by
  simp [State.expiryDue]

/-- An expiry that is not due does not happen (R108, R114). -/
theorem State.expire_notDue (s : State) (p : PortId) (h : (s.window p).timer ≠ some 0) : s.expire p = s :=
  if_neg (fun k => h ((s.expiryDue_iff p).1 k))

/-- A due expiry within the retry limit goes back (R112). -/
theorem State.expire_goBack (s : State) (p : PortId) (h : (s.window p).timer = some 0)
    (hr : (s.window p).retryCount + 1 ≤ (s.window p).retryLimit) :
    s.expire p = s.goBack p ((s.window p).retryCount + 1) := by
  unfold State.expire
  rw [if_pos ((s.expiryDue_iff p).2 h)]
  exact if_neg (Nat.not_lt.2 hr)

/-- A due expiry beyond the retry limit fences (R112, R113). -/
theorem State.expire_fence (s : State) (p : PortId) (h : (s.window p).timer = some 0)
    (hr : (s.window p).retryLimit < (s.window p).retryCount + 1) : s.expire p = s.fence p .retries := by
  unfold State.expire
  rw [if_pos ((s.expiryDue_iff p).2 h)]
  exact if_pos hr

/-- A unit of time in which no expiry is due only lowers the running timers (R108, R203). -/
theorem State.passUnit_noneDue (s : State) (h : ∀ p, (s.window p).timer ≠ some 0) : s.passUnit = s.tick := by
  have e : stationsInOrder.filter s.expiryDue = [] :=
    List.filter_eq_nil_iff.2 (fun p _ k => h p ((s.expiryDue_iff p).1 k))
  unfold State.passUnit
  rw [e]
  rfl

@[simp] theorem State.port_tick (s : State) (p : PortId) : s.tick.port p = (s.port p).tick := by
  simp [State.tick, State.port]

end Sys2Proof.Machine
end

