-- ==== Sys2Proof/Tests/Slice0.lean ====
section
/-! SUPPORT. The model's own tests: well-formedness checks, frames written out byte by byte, worked examples of the
spec, and for every statement with hypotheses a concrete state and operands that meet them. -/

set_option Elab.async false

namespace Sys2Proof.Tests

open Sys2Proof Sys2Proof.Machine Sys2Proof.Claims

/-! ### Small states -/

/-- The next state of an outcome. -/
def after (o : Host.Outcome State Fault Refusal) : Option State :=
  match o with
  | .next s => some s
  | .fault _ | .refused _ => none

def allRights : Rights := ⟨true, true, true, true⟩

/-- An ACTIVE port: arrival sequence 7, four frames accepted, credit 5. -/
def activePort (number : Nat) : PortLink :=
  { PortLink.reset with
    state := .active, session := some ⟨number, 7, 4⟩, protocolErrors := 2
    window := { Window.reset with credit := 5 } }

/-- Item t of a bank changed, for a list of (t, item). -/
def bankOf {α : Type} (x : α) (l : List (Fin 8 × α)) : Bank α := l.foldl (fun b e => Bank.set b e.1 e.2) (Bank.fill x)

/-- A message of `cells` cells from station 0. -/
def message (t : StationId) (q cells : Nat) (seq : Option SeqNum) (grant : Option CarriedGrant) : Descriptor :=
  { origin := 0, target := t, queue := q, tag := 0x1234, expedite := false, repeated := seq.isSome
    payload := List.replicate (64 * cells) 7, cells := cells, seq := seq, grant := grant }

/-- RQ 5 of station 1: one listed and two outstanding messages. -/
def serviceQueue : Queue := ⟨.opened, .b1, 4, [⟨.message 2, .normal⟩], 2, 3, 3, false⟩

/-- RQ 7 of station 2: two listed messages. -/
def backlogQueue : Queue := ⟨.opened, .b0, 10, [⟨.message 3, .normal⟩, ⟨.message 4, .normal⟩], 0, 2, 2, false⟩

def sealedQueue : Queue := ⟨.sealed, .b2, 2, [], 0, 0, 0, false⟩

def familyOne : Family := ⟨.opened, 1, 2, 5, allRights, 0x1234, true, 4⟩
def familyTwo : Family := ⟨.opened, 1, 2, 6, allRights, 7, true, 1⟩
def familyThree : Family := ⟨.revoking, 1, 2, 5, allRights, 9, false, 3⟩
def familyFour : Family := ⟨.opened, 2, 5, 7, allRights, 1, false, 1⟩

/-- Stations 0 to 2 are ENABLED, 0 and 2 with MANAGE, with sessions on their ports; station 4 is EVICTING. Station 1 has
two deliveries outstanding, whose grants are RESERVED, and a message and a report listed; station 2 has two messages
listed, whose grants are IN_TRANSIT. Family 3 is REVOKING. -/
def world : State :=
  { State.reset with
    stations := bankOf Station.resetAbsent
      [(0, Station.resetFirst), (1, ⟨.enabled, 2, false, 10, 8, 100, 3, ⟨8, 4, 2⟩⟩),
       (2, ⟨.enabled, 5, true, 20, 9, 200, 0, ⟨8, 4, 2⟩⟩), (3, ⟨.absent, 4, false, 0, 0, 0, 0, ⟨8, 4, 2⟩⟩),
       (4, ⟨.evicting, 1, false, 5, 5, 50, 0, ⟨8, 4, 2⟩⟩)]
    families := [(1, familyOne), (2, familyTwo), (3, familyThree), (4, familyFour)]
    tables := bankOf []
      [(0, [(1, ⟨.defined, 1, allRights, some 5⟩), (2, ⟨.defined, 2, allRights, none⟩),
            (3, ⟨.defined, 4, allRights, some 9⟩)]),
       (1, [(1, ⟨.reserved 0, 1, allRights, some 4⟩), (2, ⟨.reserved 1, 3, allRights, none⟩),
            (3, ⟨.defined, 3, allRights, none⟩)]),
       (2, [(1, ⟨.defined, 1, allRights, some 1⟩)])]
    slotsInUse := bankOf 0 [(0, 3), (1, 3), (2, 1)]
    storeUse := 7
    queues := bankOf []
      [(0, [(0, Queue.freshReportQueue)]),
       (1, [(0, ⟨.opened, .b0, 32, [⟨.report 0, .normal⟩], 0, 1, 0, false⟩),
            (5, serviceQueue), (6, sealedQueue)]),
       (2, [(0, Queue.freshReportQueue),
            (7, backlogQueue)]),
       (4, [(0, ⟨.purging, .b0, 32, [], 0, 0, 0, false⟩)])]
    rqsInUse := bankOf 0 [(1, 2), (2, 1)]
    descriptors :=
      [(0, message 1 5 1 (some 0) (some ⟨1, allRights, some 4, .reserved 1⟩)),
       (1, message 1 5 0 (some 1) (some ⟨3, allRights, none, .reserved 2⟩)), (2, message 1 5 2 none none),
       (3, message 2 7 1 none (some ⟨1, allRights, none, .inTransit⟩)),
       (4, message 2 7 1 none (some ⟨3, allRights, none, .inTransit⟩))]
    freeDescriptors := 1019
    freeCells := 3067
    reports := [(0, ⟨1, .portFenced 4 .retries, 0, false, none⟩)]
    freeReports := 63
    heldCells := bankOf 0 [(1, 3), (2, 2)]
    schedulers := bankOf Scheduler.reset
      [(1, ⟨⟨[0], [5], [], []⟩, ⟨0, 0, 0⟩, .b1, false⟩), (2, ⟨⟨[7], [], [], []⟩, ⟨0, 0, 0⟩, .b1, false⟩)]
    ports := bankOf PortLink.reset
      [(0, activePort 3),
       (1, { activePort 4 with
              window := { Window.reset with
                outstanding := [.message 0, .message 1], nextSeq := 2, credit := 5, timer := some 9 } }),
       (2, activePort 5), (3, { PortLink.reset with state := .idle }),
       (4, { PortLink.reset with state := .fenced, fenceCause := some .retries, protocolErrors := 1 })]
    lastTicket := 6 }

/-- The frame that stands at the head of an ingress queue in these tests. -/
def frame (kind : FrameKind) (body : List Byte) : IngressFrame := ⟨kind, 3, 6, body⟩

/-- A frame of this kind at the head of port p's ingress queue. -/
def offer (s : State) (p : PortId) (kind : FrameKind) (body : List Byte) : State :=
  s.setPort p { s.port p with ingress := [frame kind body] }

/-- The content of a CONTROL frame after its sequence. -/
def asking (code : Byte) (params : List Byte) : List Byte := code :: BitVec.ofNat 8 params.length :: params

/-- The CONTROL frame of these tests. -/
def askFrame (code : Byte) (params : List Byte) : IngressFrame := frame .control (asking code params)

/-- A CONTROL frame at the head of port p's ingress queue. -/
def ask (p : PortId) (code : Byte) (params : List Byte) : State := offer world p .control (asking code params)

/-- The MESSAGE frame of these tests at the head of port 0's ingress queue. -/
def send (body : List Byte) : State := offer world 0 .message body

/-- State s with port p changed. -/
def onPort (s : State) (p : PortId) (f : PortLink → PortLink) : State := s.setPort p (f (s.port p))

/-- Port p is one protocol error below its limit. -/
def atLimit (p : PortId) : State := onPort world p (fun x => { x with protocolErrors := 15 })

/-- The window of port p of `world` changed. -/
def onWindow (p : PortId) (f : Window → Window) : State := onPort world p (fun x => { x with window := f x.window })

/-- The timer of port p has run out after this many retries. -/
def due (p : PortId) (retries : Nat) : State := onWindow p (fun w => { w with timer := some 0, retryCount := retries })

/-- State s in which station 1 is the only ENABLED one, with MANAGE. -/
def soleManager (s : State) : State :=
  { s with stations := bankOf Station.resetAbsent [(1, ⟨.enabled, 2, true, 10, 8, 100, 3, ⟨8, 4, 2⟩⟩)] }

/-- State s with another record of queue (t, q). -/
def onQueue (s : State) (t : StationId) (q : Nat) (x : Queue) : State := s.setQueue t q x

/-- State s with another record of family f. -/
def onFamily (s : State) (f : Nat) (y : Family) : State := { s with families := Table.put s.families f y }

/-- RQ 0 of station 0 with n reports listed. -/
def reportsListed (n : Nat) : Queue :=
  { Queue.freshReportQueue with list := List.replicate n ⟨.report 9, .normal⟩, heldMessages := n }

/-- An ACK with this session number and credit increment is one of port 1's session. -/
abbrev Acks (s : State) (ses cr : Byte) : Prop :=
  ses.toNat ≤ 15 ∧ cr.toNat ≤ 15 ∧ (s.port 1).state = .active ∧ (s.port 1).session = some ⟨4, 7, 4⟩ ∧ ses.toNat = 4

/-- The two reserved grants of `world`, and its two in transit. -/
def grantOne : CarriedGrant := ⟨1, allRights, some 4, .reserved 1⟩
def grantThree : CarriedGrant := ⟨3, allRights, none, .reserved 2⟩
def travelling : CarriedGrant := ⟨1, allRights, none, .inTransit⟩

def slotOne : Slot := ⟨.defined, 1, allRights, some 5⟩
def slotThree : Slot := ⟨.defined, 4, allRights, some 9⟩
def slotRevoked : Slot := ⟨.defined, 3, allRights, none⟩

/-- The two slots that are RESERVED at station 1 in `world`. -/
def heldOne : Slot := ⟨.reserved 0, 1, allRights, some 4⟩
def heldTwo : Slot := ⟨.reserved 1, 3, allRights, none⟩

/-- The two outstanding messages of `world`. -/
def deliveryOne : Descriptor := message 1 5 1 (some 0) (some grantOne)
def deliveryTwo : Descriptor := message 1 5 0 (some 1) (some grantThree)

/-- Families 1 and 3 of `world` with one copy left. -/
def lastCopyOne (st : FamilyState) : Family := { familyOne with state := st, live := 1 }
def lastCopyThree : Family := { familyThree with live := 1 }

/-- RQ 0 of station 1, which lists a report. -/
def reportQueue : Queue := ⟨.opened, .b0, 32, [⟨.report 0, .normal⟩], 0, 1, 0, false⟩

/-- The message listed first in RQ 7 of station 2, as transmitted before, its grant in state c. -/
def returned (c : CarriedState) : Descriptor :=
  { message 2 7 1 none (some { travelling with state := c }) with repeated := true }

/-- `world` with descriptor 3 changed. -/
def withThird (d : Descriptor) : State := { world with descriptors := Table.put world.descriptors 3 d }

/-- A sweep with ticket 7 of station 0's generation g. -/
def sweepOf (g : Nat) (c : Cursor) (j : SweepSubject) : Sweep := ⟨j, c, 7, 0, g, 2, 3⟩

/-- `world` while a sweep is in progress. -/
def sweeping (x : Sweep) : State := { world with sweep := some x }

/-- RQ 5 of station 1 as a PURGING queue with this list, outstanding count, held messages and cells. -/
def purgingQueue (l : List ListEntry) (o h c : Nat) : Queue := ⟨.purging, .b1, 4, l, o, h, c, false⟩

/-- `world` while RQ 5 of station 1 is purged, the requester's generation being g. -/
def purging (g : Nat) (x : Queue) : State :=
  { sweeping (sweepOf g (.queuePass 1 5) (.purge 1 5)) with
    queues := Bank.set world.queues 1 (Table.put (Bank.get world.queues 1) 5 x) }

/-- `world` with a PURGING RQ 5 of station 1 whose two messages are outstanding. -/
def purgingOutstanding : State := onQueue world 1 5 (purgingQueue [] 2 2 1)

/-- Slots of station 0 for the checks of an attached grant: 4 without SHARE and MOVE, 5 of a REVOKING family, 6 without
EXPEDITE. -/
def carrying (body : List Byte) : State :=
  { send body with
    tables := Bank.set world.tables 0
      [(1, slotOne), (3, slotThree), (4, ⟨.defined, 4, ⟨true, false, false, true⟩, none⟩), (5, slotRevoked),
       (6, ⟨.defined, 4, ⟨true, true, true, false⟩, none⟩)] }

def silentFrame : DeliveryFrame := ⟨4, 0, 0, 0, 0, false, false, none, []⟩

def refusal : Answer := .verdict 4 3 .noGrant .zero

/-- The eight queue entries and scheduler of station 1 before the third selection of the example of section 4.2.1:
bands 1 to 3 list RQ 2; RQ 5 and 4; RQ 9. -/
def turning : State :=
  { world with
    queues := Bank.set world.queues 1
      [(0, Queue.freshReportQueue), (2, ⟨.opened, .b1, 9, [⟨.message 11, .normal⟩, ⟨.message 12, .normal⟩], 1, 3, 12, false⟩),
       (4, ⟨.opened, .b2, 9, [⟨.message 14, .normal⟩], 1, 2, 5, false⟩),
       (5, ⟨.opened, .b2, 9, [⟨.message 15, .normal⟩], 0, 1, 0, false⟩),
       (9, ⟨.opened, .b3, 9, [⟨.message 16, .normal⟩], 0, 1, 6, false⟩)]
    descriptors := world.descriptors ++
      [(11, message 1 2 7 none none), (12, message 1 2 2 none none), (14, message 1 4 1 none none),
       (15, message 1 5 0 none none), (16, message 1 9 6 none none)]
    schedulers := Bank.set world.schedulers 1 ⟨⟨[], [2], [5, 4], [9]⟩, ⟨5, 0, 0⟩, .b3, false⟩ }

/-! ### Well-formed commands: each check, with a term it refuses -/

theorem test_wf_crcErrorFrame : (Instr.crcErrorFrame 0 [1, 2, 3, 4]).wf = true ∧
    (Instr.crcErrorFrame 0 (sealFrame [0x04, 3, 0])).wf = false := by decide +kernel

theorem test_wf_unreadableFrame : (Instr.unreadableFrame 0 (sealFrame [0x05, 3, 0])).wf = true ∧
    (Instr.unreadableFrame 0 (sealFrame [0x04, 3, 0])).wf = false := by decide +kernel

theorem test_wf_linkOpen : (Instr.linkOpen 0 (sealFrame [0x04, 1, 15])).wf = true ∧
    (Instr.linkOpen 0 (sealFrame [0x04, 2, 15])).wf = false := by decide +kernel

theorem test_wf_linkClose : (Instr.linkClose 0 (sealFrame [0x04, 2, 0])).wf = true ∧
    (Instr.linkClose 0 (sealFrame [0x04, 1, 1])).wf = false := by decide +kernel

theorem test_wf_linkPing : (Instr.linkPing 0 (sealFrame [0x04, 3, 0])).wf = true ∧
    (Instr.linkPing 0 [0x04, 3, 0, 0, 0, 0, 0]).wf = false := by decide +kernel

theorem test_wf_ingressArrival : (Instr.ingressArrival 0 (sealFrame [0x02, 15, 0, 0x25, 0])).wf = true ∧
    (Instr.ingressArrival 0 (sealFrame [0x02, 16, 0, 0x25, 0])).wf = false := by decide +kernel

theorem test_wf_ack : (Instr.ack 0 (sealFrame [0x03, 1, 0, 9, 15])).wf = true ∧
    (Instr.ack 0 (sealFrame [0x03, 1, 2, 9, 15])).wf = false ∧
    (Instr.ack 0 (sealFrame [0x03, 1, 1, 9, 16])).wf = false := by decide +kernel

/-! ### Frames written out byte by byte (chapter 10) -/

/-- The check value of R197. -/
theorem test_crc_checkValue :
    crc32 [0x31, 0x32, 0x33, 0x34, 0x35, 0x36, 0x37, 0x38, 0x39] = 0xFC891918#32 := by decide +kernel

theorem test_read_linkOpen : classify [0x04, 1, 5, 0x8A, 0x25, 0x9A, 0x54] = .linkOpen 5 := by decide +kernel

theorem test_read_ack : classify [0x03, 5, 1, 9, 2, 0x93, 0x6B, 0x2F, 0x21] = .ack ⟨5, some 9, 2⟩ := by decide +kernel

theorem test_read_control : classify [0x02, 5, 0, 0x25, 0, 0x3D, 0xF3, 0x8B, 0x98] = .ingress ⟨.control, 5, 0, [0x25, 0]⟩ := by
  decide +kernel

theorem test_read_message :
    classify [0x01, 5, 0, 0, 3, 0, 0, 0, 2, 0xAB, 0xCD, 0xA1, 0xF2, 0x79, 0xE5] =
      .ingress ⟨.message, 5, 0, [0, 3, 0, 0, 0, 2, 0xAB, 0xCD]⟩ ∧
    readMessage [0, 3, 0, 0, 0, 2, 0xAB, 0xCD] = some ⟨3, false, none, [0xAB, 0xCD]⟩ := by decide +kernel

theorem test_read_attach :
    readMessage [0, 3, 1, 1, 0, 1, 4, 1, 1, 5, 1, 0, 7, 0xAB] =
      some ⟨3, true, some (.share 1025 ⟨true, false, true, false⟩ (some 7)), [0xAB]⟩ ∧
    readMessage [0, 3, 0, 1, 0, 0, 0, 2, 2, 0xFF, 9, 0, 0] = some ⟨3, false, some (.move 2), []⟩ := by decide +kernel

theorem test_bytes_downstream :
    (Answer.verdict 3 6 .accepted (.budget (some 4))).bytes = [0x82, 3, 6, 0, 1, 0, 4] ∧
    (Answer.response 3 6 .outOfSequence [9]).bytes = [0x83, 3, 6, 30, 1, 9] ∧
    (LinkReply.pong true 5).bytes 2 = [0x84, 3, 2, 5, 2] ∧
    (DeliveryFrame.mk 4 1 5 0 0x1234 true true (some (.pending 258 ⟨true, true, false, false⟩ (some 3) 9)) [7]).bytes =
      [0x81, 4, 1, 5, 0, 7, 0x12, 0x34, 0, 1, 1, 1, 2, 3, 1, 0, 3, 0, 9, 7] ∧
    (ReportContent.sweepComplete 7 (.evict 5) 4 3).bytes 2 = [1, 2, 7, 3, 5, 0, 0, 0, 4, 0, 3] := by decide +kernel

/-! ### Worked examples of the spec, one step each -/

/-- Selection 3 of section 4.2.1: band 3 passes with deficit 2, band 1 arrives at 13 and serves a cost of 7. -/
theorem test_selection_passesTurns :
    (after (exec (.selection 1) turning)).map (fun t => (t.scheduler 1, (t.port 1).window.outstanding)) =
      some (⟨⟨[], [2], [5, 4], [9]⟩, ⟨6, 0, 2⟩, .b1, true⟩, [.message 0, .message 1, .message 11]) := by decide +kernel

/-- The acceptance of an evict frees the two outstanding deliveries with their slots (R135). -/
theorem test_evict_countsItsFreedDeliveries :
    (after (exec (.evictStation 0) (ask 0 0x3A [1]))).map
        (fun t => (t.sweep.map (fun x => (x.slotsFreed, x.messagesFreed)), Bank.get t.slotsInUse 1, t.freeCells)) =
      some (some (2, 2), 1, 3068) := by decide +kernel

/-- Section 9.9, frames 3 and 4: a station without MANAGE that names station 5, and station 9. -/
theorem test_permission_comesBeforeRange :
    (after (exec (.readStation 1) (ask 1 0x4B [5]))).map (fun t => (t.port 1).answers) =
      some [.response 3 6 .notPermitted []] ∧
    (after (exec (.readStation 1) (ask 1 0x4B [9]))).map (fun t => (t.port 1).answers) =
      some [.response 3 6 .notPermitted []] := by decide +kernel

/-- Section 9.10, step 1: the only holder may not clear its own flag. -/
theorem test_setManage_lastManager :
    (after (exec (.setManage 0) (offer State.reset 0 .control (asking 0x4A [0, 0])))).map (fun t => (t.port 0).answers) =
      some [.response 3 6 .lastManager []] := by decide +kernel

/-- A reset state with nothing waiting idles, and its timers are stopped. -/
theorem test_step_idlesAtReset : after (step State.reset) = some State.reset := by decide +kernel

/-- A due expiry that no command takes is taken within the unit: the window goes again and its timer restarts (R112,
R203). -/
theorem test_step_takesADueExpiry :
    (after (step (due 1 0))).map
        (fun t => ((t.port 1).window.timer, (t.port 1).window.retryCount, (t.port 1).window.retransmissions.length)) =
      some (some 20, 1, 2) := by decide +kernel

/-- Section 5.12, course A: an ACK of the older of two deliveries arrives while the expiry is due; the timer restarts, and
the expiry does not happen (R114). -/
theorem test_ack_comesBeforeADueExpiry :
    (after (exec (.ack 1 (sealFrame [0x03, 4, 1, 0, 1])) (due 1 0))).map
        (fun t => ((t.port 1).window.timer, (t.port 1).window.retryCount, after (exec (.expiry 1) t) == some t)) =
      some (some 20, 0, true) := by decide +kernel

/-! ### Witnesses: for each statement, a state and operands that meet its hypotheses, clause by clause -/

theorem witness_StepRunsTheFrontCommand :
    let c : Instr := .slotPassStep; let rest : List Instr := [.resetN];
    let s : State := { world with pending := [.slotPassStep, .resetN] };
    s.pending = c :: rest := by
  decide +kernel

theorem witness_IdleStepPassesOneUnitOfTime :
    let s : State := world;
    s.pending = [] ∧ ∀ p, (s.port p).window.timer ≠ some 0 := by
  decide +kernel

theorem witness_IdleStepPassesOneUnitOfTime_2 :
    let s : State := due 1 3;
    s.pending = [] ∧ (List.finRange 8).filter (fun p => decide ((s.port p).window.timer = some 0)) = [1] := by
  decide +kernel

theorem witness_ResetLeaves :
    let t : State := { State.reset with pending := world.pending };
    exec .resetN world = .next t := rfl

theorem witness_SignalOnAPortWithoutASession :
    let p : PortId := 5; let s : State := world;
    (s.port p).state = .down := by
  decide +kernel

theorem witness_SignalOnAPortWithoutASession_2 :
    let p : PortId := 3; let s : State := world;
    (s.port p).state = .idle ∨ (s.port p).state = .fenced := by
  decide +kernel

theorem witness_SignalOnAPortWithoutASession_3 :
    let p : PortId := 4; let s : State := world;
    (s.port p).state = .idle ∨ (s.port p).state = .fenced := by
  decide +kernel

theorem witness_SessionEndClearsThePort :
    let p : PortId := 1; let s : State := world; let n : Byte := 15;
    (s.port p).state = .active ∧ 1 ≤ n.toNat ∧ n.toNat ≤ 15 := by
  decide +kernel

theorem witness_SessionEndReturnsDeliveriesInOrder :
    let p : PortId := 1; let s : State := world; let b : Byte := 0; let u : StationId := 1; let q : Nat := 5;
    let x : Queue := serviceQueue; let c : Instr := .signalLoss 1;
    (s.port p).state = .active ∧ (s.port p).window.outstanding ≠ [] ∧
    (∀ (e : EntryRef), e ∈ (s.port p).window.outstanding → s.entryQueue e = some (u, q)) ∧ s.queue u q = some x ∧
    x.state ≠ .purging ∧ (c = Instr.signalLoss p ∨ c = Instr.linkClose p (sealFrame [4, 2, b])) := by
  decide +kernel

theorem witness_SessionEndReturnsDeliveriesInOrder_2 :
    let p : PortId := 1; let content : List Byte := sealFrame [9]; let s : State := soleManager (atLimit 1);
    (s.port p).state = .active ∧ (s.port p).window.outstanding ≠ [] ∧
    (∀ e ∈ (s.port p).window.outstanding, s.entryQueue e = some (1, 5)) ∧ s.queue 1 5 = some serviceQueue ∧
    serviceQueue.state ≠ .purging ∧ (∀ v, v ≠ p → ¬ Manager s v) ∧ ProtocolFence s p content := by
  decide +kernel

theorem witness_SessionEndReturnsDeliveriesInOrder_3 :
    let p : PortId := 1; let s : State := soleManager (due 1 3);
    (s.port p).state = .active ∧ (s.port p).window.outstanding ≠ [] ∧
    (∀ e ∈ (s.port p).window.outstanding, s.entryQueue e = some (1, 5)) ∧ s.queue 1 5 = some serviceQueue ∧
    serviceQueue.state ≠ .purging ∧ (∀ v, v ≠ p → ¬ Manager s v) ∧ RetryFence s p := by
  decide +kernel

/-- The two deliveries of `world` return to RQ 5 of station 1. -/
theorem handedBack_returned (s : State) (h : s.entryQueue (.message 0) = some (1, 5))
    (hq : s.queue 1 5 = some serviceQueue)
    (h' : (entryReturned s 1 5 serviceQueue (.message 0) 0).entryQueue (.message 1) = some (1, 5))
    (hq' : (entryReturned s 1 5 serviceQueue (.message 0) 0).queue 1 5 = some
      { serviceQueue with list := [⟨.message 0, .returned⟩, ⟨.message 2, .normal⟩], outstanding := 1 }) :
    ∃ t, HandedBack s [] [.message 0, .message 1] t :=
  ⟨_, .returned _ _ _ _ _ 1 5 serviceQueue h hq (by decide) (.returned _ _ _ _ _ 1 5 _ h' hq' (by decide) (.none _ _))⟩

/-- A session end by signal loss or a link frame, a protocol error at the limit, and an expiry beyond the retry limit. -/
theorem witness_SessionEndReturnsDeliveriesInOrder_4 :
    (∃ t, HandedBack world [] (world.port 1).window.outstanding t) ∧ (world.port 1).state = .active ∧
    (∃ t, HandedBack (atLimit 1) [] ((atLimit 1).port 1).window.outstanding t) ∧
    ((atLimit 1).port 1).state = .active ∧ ProtocolFence (atLimit 1) 1 (sealFrame [4, 1, 0]) ∧
    (∃ t, HandedBack (due 1 3) [] ((due 1 3).port 1).window.outstanding t) ∧ ((due 1 3).port 1).state = .active ∧
    RetryFence (due 1 3) 1 := by
  refine ⟨handedBack_returned _ ?_ ?_ ?_ ?_, ?_, handedBack_returned _ ?_ ?_ ?_ ?_, ?_, ?_,
    handedBack_returned _ ?_ ?_ ?_ ?_, ?_, ?_⟩ <;>
    decide +kernel

/-- The two deliveries of a PURGING queue are freed, each with its RESERVED slot. -/
theorem witness_SessionEndReturnsDeliveriesInOrder_5 :
    (∃ t, HandedBack purgingOutstanding [] (purgingOutstanding.port 1).window.outstanding t) ∧
    (purgingOutstanding.port 1).state = .active := by
  refine ⟨⟨_, .freed _ _ _ _ _ _ 1 5 1 (purgingQueue [] 2 2 1) ?_ ?_ rfl
    (.reserved 0 deliveryOne grantOne 1 heldOne familyOne ?_ rfl rfl ?_ rfl ?_)
    (.freed _ _ _ _ _ _ 1 5 1 (purgingQueue [] 1 1 0) ?_ ?_ rfl
      (.reserved 1 deliveryTwo grantThree 2 heldTwo familyThree ?_ rfl rfl ?_ rfl ?_) (.none _ _))⟩, ?_⟩ <;>
    decide +kernel

theorem witness_LinkFramesOpenCloseAndPing :
    let p : PortId := 3; let s : State := world; let n : Byte := 1;
    (s.port p).state = .idle ∧ 1 ≤ n.toNat ∧ n.toNat ≤ 15 := by
  decide +kernel

theorem witness_LinkFramesOpenCloseAndPing_2 :
    let p : PortId := 3; let s : State := world;
    ((s.port p).state = .idle ∨ (s.port p).state = .active) ∧ (s.port p).linkReply = none := by
  decide +kernel

theorem witness_LinkFramesOpenCloseAndPing_3 :
    let p : PortId := 1; let s : State := onPort world 1 (fun x => { x with linkReply := some .closed });
    ((s.port p).state = .idle ∨ (s.port p).state = .active) ∧ (s.port p).linkReply ≠ none := by
  decide +kernel

theorem witness_DiscardedFramesAreCounted :
    let content : List Byte := [1, 2, 3, 4];
    crcOk content = false := by
  decide +kernel

theorem witness_DiscardedFramesAreCounted_2 :
    let p : PortId := 1; let content : List Byte := sealFrame [9]; let s : State := world;
    (classify content = Arrival.unreadable ∨ classify content = Arrival.badLinkOpen) ∧ (s.port p).state = .active ∧
    (s.port p).protocolErrors + 1 ≠ (s.port p).protocolLimit := by
  decide +kernel

theorem witness_DiscardedFramesAreCounted_3 :
    let p : PortId := 3; let content : List Byte := sealFrame [4, 1, 0]; let s : State := world;
    (classify content = Arrival.unreadable ∨ classify content = Arrival.badLinkOpen) ∧
    (s.port p).state ≠ .active := by
  decide +kernel

theorem witness_ProtocolErrorAtTheLimitFencesThePort :
    let p : PortId := 1; let content : List Byte := sealFrame [4, 1, 16]; let s : State := atLimit 1;
    (classify content = Arrival.unreadable ∨ classify content = Arrival.badLinkOpen) ∧ (s.port p).state = .active ∧
    (s.port p).protocolErrors + 1 = (s.port p).protocolLimit := by
  decide +kernel

theorem witness_FencingReportIsPlacedOrCounted :
    let p : PortId := 2; let u : PortId := 0; let content : List Byte := sealFrame [9]; let s : State := atLimit 2;
    let q : Queue := Queue.freshReportQueue;
    (classify content = Arrival.unreadable ∨ classify content = Arrival.badLinkOpen) ∧ (s.port p).state = .active ∧
    (s.port p).protocolErrors + 1 = (s.port p).protocolLimit ∧ (s.port p).window.outstanding = [] ∧ u ≠ p ∧
    Manager s u ∧ (∀ (v : PortId), v ≠ p → v ≠ u → ¬Manager s v) ∧ s.queue u 0 = some q ∧ s.freeReports ≠ 0 ∧
    q.heldMessages < 32 := by
  decide +kernel

theorem witness_FencingReportIsPlacedOrCounted_2 :
    let p : PortId := 2; let u : PortId := 0; let content : List Byte := sealFrame [9];
    let s : State := { atLimit 2 with freeReports := 0 }; let q : Queue := Queue.freshReportQueue;
    (classify content = Arrival.unreadable ∨ classify content = Arrival.badLinkOpen) ∧ (s.port p).state = .active ∧
    (s.port p).protocolErrors + 1 = (s.port p).protocolLimit ∧ (s.port p).window.outstanding = [] ∧ u ≠ p ∧
    Manager s u ∧ (∀ (v : PortId), v ≠ p → v ≠ u → ¬Manager s v) ∧ s.queue u 0 = some q ∧
    (s.freeReports = 0 ∨ 32 ≤ q.heldMessages) := by
  decide +kernel

theorem witness_FencingReportIsPlacedOrCounted_3 :
    let p : PortId := 2; let u : PortId := 0; let s : State := onQueue (atLimit 2) 0 0 (reportsListed 31);
    classify (sealFrame [9]) = .unreadable ∧ (s.port p).state = .active ∧
    (s.port p).protocolErrors + 1 = (s.port p).protocolLimit ∧ (s.port p).window.outstanding = [] ∧ u ≠ p ∧
    Manager s u ∧ (∀ v, v ≠ p → v ≠ u → ¬ Manager s v) ∧
    s.queue u 0 = some (reportsListed 31) ∧ s.freeReports ≠ 0 ∧ (reportsListed 31).heldMessages < 32 := by
  decide +kernel

theorem witness_FencingReportIsPlacedOrCounted_4 :
    let p : PortId := 2; let u : PortId := 0; let s : State := onQueue (atLimit 2) 0 0 (reportsListed 32);
    classify (sealFrame [9]) = .unreadable ∧ (s.port p).state = .active ∧
    (s.port p).protocolErrors + 1 = (s.port p).protocolLimit ∧ (s.port p).window.outstanding = [] ∧ u ≠ p ∧
    Manager s u ∧ (∀ v, v ≠ p → v ≠ u → ¬ Manager s v) ∧
    s.queue u 0 = some (reportsListed 32) ∧ 32 ≤ (reportsListed 32).heldMessages := by
  decide +kernel

theorem witness_ArrivalAtTheArrivalSequence :
    let p : PortId := 1; let s : State := world; let kind : FrameKind := .message; let ses : Byte := 4;
    let body : List Byte := [0, 1, 0, 0, 0, 0]; let x : Session := ⟨4, 7, 4⟩;
    ReadableFrame kind ses body ∧ (s.port p).state = .active ∧ (s.port p).session = some x ∧ ses.toNat = x.number ∧
    (s.port p).ingress.length < 4 := by
  decide +kernel

theorem witness_ArrivalAtTheArrivalSequence_2 :
    let p : PortId := 1;
    let s : State := onPort world 1 (fun x => { x with ingress := List.replicate 4 (frame .message []) });
    let kind : FrameKind := .control; let ses : Byte := 4; let body : List Byte := [0x25, 0];
    let x : Session := ⟨4, 7, 4⟩;
    ReadableFrame kind ses body ∧ (s.port p).state = .active ∧ (s.port p).session = some x ∧ ses.toNat = x.number ∧
    4 ≤ (s.port p).ingress.length ∧ (s.port p).protocolErrors + 1 ≠ (s.port p).protocolLimit := by
  decide +kernel

theorem witness_ArrivalOfAnotherSequence :
    let p : PortId := 1; let s : State := onPort world 1 (fun x => { x with history := [refusal] });
    let kind : FrameKind := .message; let ses : Byte := 4; let seq : SeqNum := 3;
    let body : List Byte := [0, 1, 0, 0, 0, 0]; let x : Session := ⟨4, 7, 4⟩; let a : Answer := refusal;
    ReadableFrame kind ses body ∧ (s.port p).state = .active ∧ (s.port p).session = some x ∧ ses.toNat = x.number ∧
    seq ≠ x.arrival ∧ AmongAccepted x.arrival seq x.accepted ∧
    List.find? (fun b => b.seq == seq) (s.port p).history = some a ∧ (s.port p).answers.length < 8 := by
  decide +kernel

theorem witness_ArrivalOfAnotherSequence_2 :
    let p : PortId := 1; let s : State := world; let kind : FrameKind := .message; let ses : Byte := 4;
    let seq : SeqNum := 6; let body : List Byte := [0, 1, 0, 0, 0, 0]; let x : Session := ⟨4, 7, 4⟩;
    ReadableFrame kind ses body ∧ (s.port p).state = .active ∧ (s.port p).session = some x ∧ ses.toNat = x.number ∧
    seq ≠ x.arrival ∧ AmongAccepted x.arrival seq x.accepted ∧
    (∀ (a : Answer), a ∈ (s.port p).history → a.seq ≠ seq) := by
  decide +kernel

theorem witness_ArrivalOfAnotherSequence_3 :
    let p : PortId := 1; let s : State := world; let kind : FrameKind := .control; let ses : Byte := 4;
    let seq : SeqNum := 2; let body : List Byte := [0x25, 0]; let x : Session := ⟨4, 7, 4⟩;
    ReadableFrame kind ses body ∧ (s.port p).state = .active ∧ (s.port p).session = some x ∧ ses.toNat = x.number ∧
    seq ≠ x.arrival ∧ ¬AmongAccepted x.arrival seq x.accepted ∧ (s.port p).answers.length < 8 := by
  decide +kernel

theorem witness_ArrivalOfAnotherSequence_4 :
    let p : PortId := 1; let s : State := onPort world 1 (fun x => { x with answers := List.replicate 8 refusal });
    let kind : FrameKind := .control; let ses : Byte := 4; let seq : SeqNum := 2; let body : List Byte := [0x25, 0];
    let x : Session := ⟨4, 7, 4⟩;
    ReadableFrame kind ses body ∧ (s.port p).state = .active ∧ (s.port p).session = some x ∧ ses.toNat = x.number ∧
    seq ≠ x.arrival ∧ 8 ≤ (s.port p).answers.length := by
  decide +kernel

theorem witness_FramesOutsideTheSessionAreDiscarded :
    let p : PortId := 3; let s : State := world; let kind : FrameKind := .control; let ses : Byte := 4;
    let body : List Byte := [0x25, 0]; let ind : Byte := 0; let cr : Byte := 15;
    ReadableFrame kind ses body ∧ (ind = 0#8 ∨ ind = 1#8) ∧ cr.toNat ≤ 15 ∧
    ((s.port p).state ≠ .active ∨ ∀ (x : Session), x ∈ (s.port p).session → ses.toNat ≠ x.number) := by
  decide +kernel

theorem witness_FramesOutsideTheSessionAreDiscarded_2 :
    let p : PortId := 1; let s : State := world; let kind : FrameKind := .control; let ses : Byte := 5;
    let body : List Byte := [0x25, 0]; let ind : Byte := 1; let cr : Byte := 0;
    ReadableFrame kind ses body ∧ (ind = 0#8 ∨ ind = 1#8) ∧ cr.toNat ≤ 15 ∧
    ((s.port p).state ≠ .active ∨ ∀ (x : Session), x ∈ (s.port p).session → ses.toNat ≠ x.number) := by
  decide +kernel

theorem witness_AckThatCompletesNothing :
    let p : PortId := 1; let s : State := world; let ses : Byte := 4; let seq : Byte := 2; let cr : Byte := 15;
    let x : Session := ⟨4, 7, 4⟩;
    ses.toNat ≤ 15 ∧ cr.toNat ≤ 15 ∧ (s.port p).state = .active ∧ (s.port p).session = some x ∧ ses.toNat = x.number ∧
    (∀ (e : EntryRef), e ∈ (s.port p).window.outstanding → s.entrySeq e ≠ some seq) ∧
    (s.port p).protocolErrors + 1 ≠ (s.port p).protocolLimit := by
  decide +kernel

theorem witness_AckCompletesUpToItsSequence :
    let p : PortId := 1; let s : State := world; let ses : Byte := 4; let seq : Byte := 1; let cr : Byte := 15;
    let x : Session := ⟨4, 7, 4⟩; let before : List EntryRef := [.message 0]; let after : List EntryRef := [];
    let e : EntryRef := .message 1;
    ses.toNat ≤ 15 ∧ cr.toNat ≤ 15 ∧ (s.port p).state = .active ∧ (s.port p).session = some x ∧ ses.toNat = x.number ∧
    (s.port p).window.outstanding = before ++ e :: after ∧ s.entrySeq e = some seq ∧
    (∀ (e' : EntryRef), e' ∈ before → s.entrySeq e' ≠ some seq) := by
  decide +kernel

theorem witness_AckCompletesUpToItsSequence_2 :
    let p : PortId := 1; let s : State := world; let ses : Byte := 4; let seq : Byte := 0; let cr : Byte := 0;
    let x : Session := ⟨4, 7, 4⟩; let before : List EntryRef := []; let after : List EntryRef := [.message 1];
    let e : EntryRef := .message 0;
    ses.toNat ≤ 15 ∧ cr.toNat ≤ 15 ∧ (s.port p).state = .active ∧ (s.port p).session = some x ∧ ses.toNat = x.number ∧
    (s.port p).window.outstanding = before ++ e :: after ∧ s.entrySeq e = some seq ∧
    (∀ (e' : EntryRef), e' ∈ before → s.entrySeq e' ≠ some seq) := by
  decide +kernel

theorem witness_AckDefinesTheReservedSlot :
    let p : PortId := 1; let s : State := world; let ses : Byte := 4; let seq : Byte := 0; let cr : Byte := 1;
    let x : Session := ⟨4, 7, 4⟩; let after : List EntryRef := [.message 1]; let d : Nat := 0; let n : Nat := 1;
    let m : Descriptor := message 1 5 1 (some 0) (some grantOne); let g : CarriedGrant := grantOne;
    let z : Slot := ⟨.reserved 0, 1, allRights, some 4⟩; let y : Family := familyOne; let q : Queue := serviceQueue;
    ses.toNat ≤ 15 ∧ cr.toNat ≤ 15 ∧ (s.port p).state = .active ∧ (s.port p).session = some x ∧ ses.toNat = x.number ∧
    (s.port p).window.outstanding = EntryRef.message d :: after ∧ s.descriptor d = some m ∧ m.seq = some seq ∧
    m.grant = some g ∧ g.state = .reserved n ∧ s.slot m.target n = some z ∧ z.status = .reserved d ∧
    s.family z.family = some y ∧ 1 < y.live ∧ s.queue m.target m.queue = some q ∧
    ¬(q.state = .purging ∧ q.passComplete = true ∧ q.heldMessages ≤ 1) ∧ y.state = .opened := by
  decide +kernel

theorem witness_AckDefinesTheReservedSlot_2 :
    let p : PortId := 1;
    let s : State := onPort world 1 (fun x => { x with window := { x.window with outstanding := [.message 1] } });
    let ses : Byte := 4; let seq : Byte := 1; let cr : Byte := 1; let x : Session := ⟨4, 7, 4⟩;
    let after : List EntryRef := []; let d : Nat := 1; let n : Nat := 2;
    let m : Descriptor := message 1 5 0 (some 1) (some grantThree); let g : CarriedGrant := grantThree;
    let z : Slot := ⟨.reserved 1, 3, allRights, none⟩; let y : Family := familyThree; let q : Queue := serviceQueue;
    ses.toNat ≤ 15 ∧ cr.toNat ≤ 15 ∧ (s.port p).state = .active ∧ (s.port p).session = some x ∧ ses.toNat = x.number ∧
    (s.port p).window.outstanding = EntryRef.message d :: after ∧ s.descriptor d = some m ∧ m.seq = some seq ∧
    m.grant = some g ∧ g.state = .reserved n ∧ s.slot m.target n = some z ∧ z.status = .reserved d ∧
    s.family z.family = some y ∧ 1 < y.live ∧ s.queue m.target m.queue = some q ∧
    ¬(q.state = .purging ∧ q.passComplete = true ∧ q.heldMessages ≤ 1) ∧ y.state = .revoking := by
  decide +kernel

/-- The oldest delivery carries no grant, or a VOID one; or it is a report. -/
theorem witness_AckDefinesTheReservedSlot_3 :
    let s : State := { onWindow 1 (fun w => { w with outstanding := [.message 2, .report 0] }) with
      descriptors := Table.put world.descriptors 2 (message 1 5 2 (some 0) none) };
    Acks s 4 1 ∧ (s.port 1).window.outstanding = [.message 2, .report 0] ∧
    s.descriptor 2 = some (message 1 5 2 (some 0) none) ∧ NoGrantHeld (message 1 5 2 (some 0) none) :=
  ⟨by decide +kernel, by decide +kernel, by decide +kernel, Or.inl rfl⟩

theorem witness_AckDefinesTheReservedSlot_4 :
    let m : Descriptor := { deliveryOne with grant := some { grantOne with state := .void .revoked } };
    let s : State := { world with descriptors := Table.put world.descriptors 0 m };
    Acks s 4 1 ∧ (s.port 1).window.outstanding = [.message 0, .message 1] ∧ s.descriptor 0 = some m ∧
    m.seq = some 0 ∧ NoGrantHeld m :=
  ⟨by decide +kernel, by decide +kernel, by decide +kernel, by decide +kernel, Or.inr ⟨_, _, rfl, rfl⟩⟩

theorem witness_AckDefinesTheReservedSlot_5 :
    let m : ReportRecord := ⟨1, .portFenced 4 .retries, 0, true, some 3⟩;
    let s : State := { onWindow 1 (fun w => { w with outstanding := [.report 0] }) with reports := [(0, m)] };
    Acks s 4 1 ∧ (s.port 1).window.outstanding = [.report 0] ∧ s.report 0 = some m ∧ m.seq = some 3 := by
  decide +kernel

/-- The oldest delivery holds the last copy of an OPEN family, and of a REVOKING one, which closes. -/
theorem witness_AckDefinesTheReservedSlot_6 : ∀ st : FamilyState,
    let s : State := onFamily world 1 (lastCopyOne st);
    Acks s 4 1 ∧ (s.port 1).window.outstanding = [.message 0, .message 1] ∧ s.descriptor 0 = some deliveryOne ∧
    deliveryOne.seq = some 0 ∧ deliveryOne.grant = some grantOne ∧ grantOne.state = .reserved 1 ∧
    s.slot deliveryOne.target 1 = some heldOne ∧ heldOne.status = .reserved 0 ∧ (lastCopyOne st).state = st ∧
    s.family heldOne.family = some (lastCopyOne st) ∧ (lastCopyOne st).live = 1 := by
  intro st
  cases st <;> decide +kernel

theorem witness_AcceptedMessageIsListed :
    let p : PortId := 0; let s : State := send (plainMessage 0 1 0 0 2 [8, 9]);
    let f : IngressFrame := frame .message (plainMessage 0 1 0 0 2 [8, 9]); let rest : List IngressFrame := [];
    let s1 : Byte := 0; let s0 : Byte := 1; let exp : Byte := 0; let l1 : Byte := 0; let l0 : Byte := 2;
    let payload : List Byte := [8, 9]; let x : Slot := slotOne; let y : Family := familyOne;
    let q : Queue := serviceQueue; let before : List ListEntry := [];
    let after : List ListEntry := [⟨.message 2, .normal⟩];
    Offered s p FrameKind.message f rest (plainMessage s1 s0 exp l1 l0 payload) ∧ IsFlag exp ∧
    number16 l1 l0 = payload.length ∧ MayBeAccepted s p (number16 s1 s0) (decide (exp = 1#8)) payload x y q ∧
    q.list = before ++ after ∧ (∀ (e : ListEntry), e ∈ before → e.segment ≠ .normal) ∧
    (∀ (e : ListEntry), e ∈ after → e.segment = .normal) := by
  decide +kernel

theorem witness_AcceptedMessageIsListed_2 :
    let p : PortId := 0; let s : State := send (plainMessage 0 1 1 1 192 (List.replicate 448 9));
    let f : IngressFrame := frame .message (plainMessage 0 1 1 1 192 (List.replicate 448 9));
    let rest : List IngressFrame := []; let s1 : Byte := 0; let s0 : Byte := 1; let exp : Byte := 1;
    let l1 : Byte := 1; let l0 : Byte := 192; let payload : List Byte := List.replicate 448 9;
    let x : Slot := slotOne; let y : Family := familyOne; let q : Queue := serviceQueue;
    let before : List ListEntry := []; let after : List ListEntry := [⟨.message 2, .normal⟩];
    Offered s p FrameKind.message f rest (plainMessage s1 s0 exp l1 l0 payload) ∧ IsFlag exp ∧
    number16 l1 l0 = payload.length ∧ MayBeAccepted s p (number16 s1 s0) (decide (exp = 1#8)) payload x y q ∧
    q.list = before ++ after ∧ (∀ (e : ListEntry), e ∈ before → e.segment ≠ .normal) ∧
    (∀ (e : ListEntry), e ∈ after → e.segment = .normal) := by
  decide +kernel

theorem witness_FirstFailingCheckGivesTheVerdict :
    let p : PortId := 0; let s : State := send (plainMessage 0 9 0 0 2 [8, 9]);
    let f : IngressFrame := frame .message (plainMessage 0 9 0 0 2 [8, 9]); let rest : List IngressFrame := [];
    let s1 : Byte := 0; let s0 : Byte := 9; let exp : Byte := 0; let l1 : Byte := 0; let l0 : Byte := 2;
    let payload : List Byte := [8, 9];
    Offered s p FrameKind.message f rest (plainMessage s1 s0 exp l1 l0 payload) ∧ IsFlag exp ∧
    number16 l1 l0 = payload.length ∧ number16 s1 s0 ≠ 0 ∧
    plainVerdict s p (number16 s1 s0) (decide (exp = 1#8)) payload.length ≠ Verdict.accepted := by
  decide +kernel

/-- A carried slot, mode, rights and budget bytes, and the verdict. -/
structure AttachCase where
  slot : Byte
  mode : Byte
  rights : Byte
  budget : Byte × Byte × Byte
  verdict : Verdict
  deriving DecidableEq, Repr

/-- Each of checks 9.1 to 9.6 fails, with SHARE or MOVE; the sending slot is 1 with budget 5. -/
def attachCases : List AttachCase :=
  [⟨1, 2, 255, (9, 0, 0), .attachSame⟩, ⟨9, 1, 1, (0, 0, 0), .attachNoGrant⟩, ⟨9, 2, 1, (0, 0, 0), .attachNoGrant⟩,
   ⟨4, 1, 1, (0, 0, 0), .attachNoRight⟩, ⟨4, 2, 1, (0, 0, 0), .attachNoRight⟩, ⟨5, 1, 1, (0, 0, 0), .attachRevoked⟩,
   ⟨5, 2, 1, (0, 0, 0), .attachRevoked⟩, ⟨6, 1, 15, (0, 0, 0), .attachRightsExceed⟩,
   ⟨3, 1, 1, (0, 0, 0), .attachBudget⟩, ⟨3, 1, 1, (1, 0, 10), .attachBudget⟩, ⟨1, 1, 1, (1, 0, 5), .attachBudget⟩]

theorem witness_FirstFailingCheckGivesTheVerdict_2 : ∀ e ∈ attachCases,
    let b := e.budget
    let body := attachingMessage 0 1 0 0 1 0 e.slot e.mode e.rights b.1 b.2.1 b.2.2 [8]
    let s := carrying body
    Offered s 0 .message (frame .message body) [] body ∧ IsFlag 0 ∧ number16 0 1 = [8].length ∧ number16 0 1 ≠ 0 ∧
      number16 0 e.slot ≠ 0 ∧
      AttachDefined e.mode e.rights b.1 b.2.1 b.2.2 ∧
      checkedVerdict s 0 1 false 1
        (attachFault s 0 1 (number16 0 e.slot) e.mode (rightsOf e.rights) (budgetOf b.1 b.2.1 b.2.2)) = e.verdict ∧
      e.verdict ≠ .accepted := by
  decide +kernel

theorem witness_AttachedGrantTravelsInTransit :
    let p : PortId := 0; let s : State := send (attachingMessage 0 1 0 0 1 0 3 1 1 1 0 9 [5]);
    let f : IngressFrame := frame .message (attachingMessage 0 1 0 0 1 0 3 1 1 1 0 9 [5]);
    let rest : List IngressFrame := []; let s1 : Byte := 0; let s0 : Byte := 1; let exp : Byte := 0;
    let l1 : Byte := 0; let l0 : Byte := 1; let c1 : Byte := 0; let c0 : Byte := 3; let mode : Byte := 1;
    let r : Byte := 1; let b2 : Byte := 1; let b1 : Byte := 0; let b0 : Byte := 9; let payload : List Byte := [5];
    let x : Slot := slotOne; let z : Slot := slotThree; let y : Family := familyOne; let w : Family := familyFour;
    let q : Queue := serviceQueue;
    Offered s p FrameKind.message f rest (attachingMessage s1 s0 exp l1 l0 c1 c0 mode r b2 b1 b0 payload) ∧
    IsFlag exp ∧ number16 l1 l0 = payload.length ∧
    MayBeAccepted s p (number16 s1 s0) (decide (exp = 1#8)) payload x y q ∧ (s.tables.get p).canonical = true ∧
    number16 c1 c0 ≠ 0 ∧ number16 c1 c0 ≠ number16 s1 s0 ∧ s.slot p (number16 c1 c0) = some z ∧ z.status = .defined ∧
    s.family z.family = some w ∧ w.state = .opened ∧ mode = 1#8 ∧ z.rights.share = true ∧ r.toNat < 16 ∧ r ≠ 0#8 ∧
    IsFlag b2 ∧ budgetOf b2 b1 b0 ≠ some 0 ∧ (rightsOf r).within z.rights = true ∧
    (∀ (b : Nat), z.budget = some b → ∃ k, budgetOf b2 b1 b0 = some k ∧ k ≤ b) := by
  decide +kernel

theorem witness_AttachedGrantTravelsInTransit_2 :
    let p : PortId := 0; let s : State := send (attachingMessage 0 1 0 0 1 0 3 2 255 9 0 9 [5]);
    let f : IngressFrame := frame .message (attachingMessage 0 1 0 0 1 0 3 2 255 9 0 9 [5]);
    let rest : List IngressFrame := []; let s1 : Byte := 0; let s0 : Byte := 1; let exp : Byte := 0;
    let l1 : Byte := 0; let l0 : Byte := 1; let c1 : Byte := 0; let c0 : Byte := 3; let mode : Byte := 2;
    let r : Byte := 255; let b2 : Byte := 9; let b1 : Byte := 0; let b0 : Byte := 9; let payload : List Byte := [5];
    let x : Slot := slotOne; let z : Slot := slotThree; let y : Family := familyOne; let w : Family := familyFour;
    let q : Queue := serviceQueue;
    Offered s p FrameKind.message f rest (attachingMessage s1 s0 exp l1 l0 c1 c0 mode r b2 b1 b0 payload) ∧
    IsFlag exp ∧ number16 l1 l0 = payload.length ∧
    MayBeAccepted s p (number16 s1 s0) (decide (exp = 1#8)) payload x y q ∧ (s.tables.get p).canonical = true ∧
    number16 c1 c0 ≠ 0 ∧ number16 c1 c0 ≠ number16 s1 s0 ∧ s.slot p (number16 c1 c0) = some z ∧ z.status = .defined ∧
    s.family z.family = some w ∧ w.state = .opened ∧ mode = 2#8 ∧ z.rights.move = true := by
  decide +kernel

/-- The sending slot itself is shared, its budget of 5 spent whole. -/
theorem witness_AttachedGrantTravelsInTransit_3 :
    let body : List Byte := attachingMessage 0 1 0 0 1 0 1 1 1 1 0 4 [5]; let s : State := send body;
    Offered s 0 .message (frame .message body) [] body ∧ MayBeAccepted s 0 1 false [5] slotOne familyOne serviceQueue ∧
    IsFlag 0 ∧ number16 0 1 = [5].length ∧ slotOne.rights.share = true ∧ (1 : Byte).toNat < 16 ∧ (1 : Byte) ≠ 0#8 ∧
    IsFlag 1 ∧ (rightsOf 1).within slotOne.rights = true ∧ slotOne.budget = some 5 ∧
    budgetOf 1 0 4 = some 4 := by
  decide +kernel

theorem witness_MalformedMessageIsAProtocolError :
    let p : PortId := 0; let s : State := send [0, 0, 0, 0, 0, 0];
    let f : IngressFrame := frame .message [0, 0, 0, 0, 0, 0]; let rest : List IngressFrame := []; let s1 : Byte := 0;
    let s0 : Byte := 0; let exp : Byte := 0; let ind : Byte := 0; let l1 : Byte := 0; let l0 : Byte := 0;
    let payload : List Byte := [];
    Offered s p FrameKind.message f rest (s1 :: s0 :: exp :: ind :: l1 :: l0 :: payload) ∧
    (s.port p).state = .active ∧ (s.port p).protocolErrors + 1 ≠ (s.port p).protocolLimit ∧
    (number16 s1 s0 = 0 ∨ ¬IsFlag exp ∨ ¬IsFlag ind ∨ ind = 0#8 ∧ number16 l1 l0 ≠ payload.length) := by
  decide +kernel

theorem witness_MalformedMessageIsAProtocolError_2 :
    let p : PortId := 0; let s : State := send [0, 1, 2, 0, 0, 0];
    let f : IngressFrame := frame .message [0, 1, 2, 0, 0, 0]; let rest : List IngressFrame := []; let s1 : Byte := 0;
    let s0 : Byte := 1; let exp : Byte := 2; let ind : Byte := 0; let l1 : Byte := 0; let l0 : Byte := 0;
    let payload : List Byte := [];
    Offered s p FrameKind.message f rest (s1 :: s0 :: exp :: ind :: l1 :: l0 :: payload) ∧
    (s.port p).state = .active ∧ (s.port p).protocolErrors + 1 ≠ (s.port p).protocolLimit ∧
    (number16 s1 s0 = 0 ∨ ¬IsFlag exp ∨ ¬IsFlag ind ∨ ind = 0#8 ∧ number16 l1 l0 ≠ payload.length) := by
  decide +kernel

theorem witness_MalformedMessageIsAProtocolError_3 :
    let p : PortId := 0; let s : State := send [0, 1, 0, 2, 0, 0];
    let f : IngressFrame := frame .message [0, 1, 0, 2, 0, 0]; let rest : List IngressFrame := []; let s1 : Byte := 0;
    let s0 : Byte := 1; let exp : Byte := 0; let ind : Byte := 2; let l1 : Byte := 0; let l0 : Byte := 0;
    let payload : List Byte := [];
    Offered s p FrameKind.message f rest (s1 :: s0 :: exp :: ind :: l1 :: l0 :: payload) ∧
    (s.port p).state = .active ∧ (s.port p).protocolErrors + 1 ≠ (s.port p).protocolLimit ∧
    (number16 s1 s0 = 0 ∨ ¬IsFlag exp ∨ ¬IsFlag ind ∨ ind = 0#8 ∧ number16 l1 l0 ≠ payload.length) := by
  decide +kernel

theorem witness_MalformedMessageIsAProtocolError_4 :
    let p : PortId := 0; let s : State := send [0, 1, 0, 0, 0, 1];
    let f : IngressFrame := frame .message [0, 1, 0, 0, 0, 1]; let rest : List IngressFrame := []; let s1 : Byte := 0;
    let s0 : Byte := 1; let exp : Byte := 0; let ind : Byte := 0; let l1 : Byte := 0; let l0 : Byte := 1;
    let payload : List Byte := [];
    Offered s p FrameKind.message f rest (s1 :: s0 :: exp :: ind :: l1 :: l0 :: payload) ∧
    (s.port p).state = .active ∧ (s.port p).protocolErrors + 1 ≠ (s.port p).protocolLimit ∧
    (number16 s1 s0 = 0 ∨ ¬IsFlag exp ∨ ¬IsFlag ind ∨ ind = 0#8 ∧ number16 l1 l0 ≠ payload.length) := by
  decide +kernel

theorem witness_IssueGrantOpensAFamily :
    let p : PortId := 1; let s : State := ask 1 0x10 [5, 3, 1, 0, 4, 0, 8, 1, 0, 0];
    let f : IngressFrame := askFrame 0x10 [5, 3, 1, 0, 4, 0, 8, 1, 0, 0]; let rest : List IngressFrame := [];
    let q : Byte := 5; let r : Byte := 3; let b2 : Byte := 1; let b1 : Byte := 0; let b0 : Byte := 4;
    let t1 : Byte := 0; let t0 : Byte := 8; let fl : Byte := 1; let n1 : Byte := 0; let n0 : Byte := 0;
    let x : Queue := serviceQueue;
    Requested s p f rest 0x10 [q, r, b2, b1, b0, t1, t0, fl, n1, n0] ∧ Enabled s p ∧ 1 ≤ q.toNat ∧ q.toNat ≤ 63 ∧
    r.toNat < 16 ∧ r ≠ 0#8 ∧ IsFlag b2 ∧ budgetOf b2 b1 b0 ≠ some 0 ∧ IsFlag fl ∧ number16 n1 n0 ≤ 1023 ∧
    s.queue p (q.toNat) = some x ∧ x.state ≠ .purging ∧ (number16 n1 n0 ≠ 0 → s.slot p (number16 n1 n0) = none) ∧
    s.slotsInUse.get p < (s.station p).grantLimit ∧ s.storeUse < 4096 ∧ s.families.lowestFree 1 ≤ 1023 := by
  decide +kernel

theorem witness_IssueGrantOpensAFamily_2 :
    let p : PortId := 1; let s : State := ask 1 0x10 [6, 15, 0, 0, 0, 0, 8, 0, 3, 255];
    let f : IngressFrame := askFrame 0x10 [6, 15, 0, 0, 0, 0, 8, 0, 3, 255]; let rest : List IngressFrame := [];
    let q : Byte := 6; let r : Byte := 15; let b2 : Byte := 0; let b1 : Byte := 0; let b0 : Byte := 0;
    let t1 : Byte := 0; let t0 : Byte := 8; let fl : Byte := 0; let n1 : Byte := 3; let n0 : Byte := 255;
    let x : Queue := sealedQueue;
    Requested s p f rest 0x10 [q, r, b2, b1, b0, t1, t0, fl, n1, n0] ∧ Enabled s p ∧ 1 ≤ q.toNat ∧ q.toNat ≤ 63 ∧
    r.toNat < 16 ∧ r ≠ 0#8 ∧ IsFlag b2 ∧ budgetOf b2 b1 b0 ≠ some 0 ∧ IsFlag fl ∧ number16 n1 n0 ≤ 1023 ∧
    s.queue p (q.toNat) = some x ∧ x.state ≠ .purging ∧ (number16 n1 n0 ≠ 0 → s.slot p (number16 n1 n0) = none) ∧
    s.slotsInUse.get p < (s.station p).grantLimit ∧ s.storeUse < 4096 ∧ s.families.lowestFree 1 ≤ 1023 := by
  decide +kernel

theorem witness_DropGrantLowersTheLiveCount :
    let p : PortId := 0; let s : State := ask 0 0x11 [0, 1]; let f : IngressFrame := askFrame 0x11 [0, 1];
    let rest : List IngressFrame := []; let n1 : Byte := 0; let n0 : Byte := 1; let x : Slot := slotOne;
    let y : Family := familyOne;
    Requested s p f rest 0x11 [n1, n0] ∧ Enabled s p ∧ 1 ≤ number16 n1 n0 ∧ number16 n1 n0 ≤ 1023 ∧
    s.slot p (number16 n1 n0) = some x ∧ x.status = .defined ∧ s.family x.family = some y ∧ 1 < y.live := by
  decide +kernel

theorem witness_DropOfTheLastCopyClosesTheFamily :
    let p : PortId := 0; let s : State := ask 0 0x11 [0, 3]; let f : IngressFrame := askFrame 0x11 [0, 3];
    let rest : List IngressFrame := []; let n1 : Byte := 0; let n0 : Byte := 3; let x : Slot := slotThree;
    let y : Family := familyFour;
    Requested s p f rest 0x11 [n1, n0] ∧ Enabled s p ∧ 1 ≤ number16 n1 n0 ∧ number16 n1 n0 ≤ 1023 ∧
    s.slot p (number16 n1 n0) = some x ∧ x.status = .defined ∧ s.family x.family = some y ∧ y.live = 1 ∧
    y.reportOnClose = false := by
  decide +kernel

theorem witness_DropOfTheLastCopyClosesTheFamily_2 :
    let p : PortId := 0; let s : State := ask 0 0x11 [0, 2]; let f : IngressFrame := askFrame 0x11 [0, 2];
    let rest : List IngressFrame := []; let n1 : Byte := 0; let n0 : Byte := 2;
    let x : Slot := ⟨.defined, 2, allRights, none⟩; let y : Family := familyTwo; let q : Queue := reportQueue;
    Requested s p f rest 0x11 [n1, n0] ∧ Enabled s p ∧ 1 ≤ number16 n1 n0 ∧ number16 n1 n0 ≤ 1023 ∧
    s.slot p (number16 n1 n0) = some x ∧ x.status = .defined ∧ s.family x.family = some y ∧ y.live = 1 ∧
    y.reportOnClose = true ∧ Enabled s y.issuer ∧ (s.station y.issuer).generation = y.issuerGeneration ∧
    s.queue y.issuer 0 = some q ∧ s.freeReports ≠ 0 ∧ q.heldMessages < 32 := by
  decide +kernel

theorem witness_DropOfTheLastCopyClosesTheFamily_3 :
    let y : Family := { familyTwo with issuerGeneration := 1 }; let s : State := onFamily (ask 0 0x11 [0, 2]) 2 y;
    Requested s 0 (askFrame 0x11 [0, 2]) [] 0x11 [0, 2] ∧ Enabled s 0 ∧ s.slot 0 2 = some ⟨.defined, 2, allRights, none⟩ ∧
    s.family 2 = some y ∧ y.live = 1 ∧ y.reportOnClose = true ∧ ¬ Current s y.issuer y.issuerGeneration := by
  decide +kernel

theorem witness_DropOfTheLastCopyClosesTheFamily_4 :
    let s : State := { ask 0 0x11 [0, 2] with freeReports := 0 };
    Requested s 0 (askFrame 0x11 [0, 2]) [] 0x11 [0, 2] ∧ Enabled s 0 ∧ s.slot 0 2 = some ⟨.defined, 2, allRights, none⟩ ∧
    s.family 2 = some familyTwo ∧ familyTwo.live = 1 ∧ familyTwo.reportOnClose = true ∧
    Current s familyTwo.issuer familyTwo.issuerGeneration ∧ s.queue familyTwo.issuer 0 = some reportQueue ∧
    s.freeReports = 0 := by
  decide +kernel

theorem witness_DropOfTheLastCopyClosesTheFamily_5 :
    let s : State := onQueue (ask 0 0x11 [0, 2]) 1 0 (reportsListed 32);
    Requested s 0 (askFrame 0x11 [0, 2]) [] 0x11 [0, 2] ∧ Enabled s 0 ∧ s.slot 0 2 = some ⟨.defined, 2, allRights, none⟩ ∧
    s.family 2 = some familyTwo ∧ familyTwo.live = 1 ∧ familyTwo.reportOnClose = true ∧
    Current s familyTwo.issuer familyTwo.issuerGeneration ∧ s.queue familyTwo.issuer 0 = some (reportsListed 32) ∧
    32 ≤ (reportsListed 32).heldMessages := by
  decide +kernel

theorem witness_InstallGrantDefinesASlot :
    let p : PortId := 0; let s : State := ask 0 0x12 [2, 0, 1, 3, 0, 0, 0, 0, 0];
    let f : IngressFrame := askFrame 0x12 [2, 0, 1, 3, 0, 0, 0, 0, 0]; let rest : List IngressFrame := [];
    let t : Byte := 2; let f1 : Byte := 0; let f0 : Byte := 1; let r : Byte := 3; let b2 : Byte := 0;
    let b1 : Byte := 0; let b0 : Byte := 0; let n1 : Byte := 0; let n0 : Byte := 0; let u : StationId := 2;
    let y : Family := familyOne;
    Requested s p f rest 0x12 [t, f1, f0, r, b2, b1, b0, n1, n0] ∧ Manager s p ∧ t.toNat = ↑u ∧ 1 ≤ number16 f1 f0 ∧
    number16 f1 f0 ≤ 1023 ∧ r.toNat < 16 ∧ r ≠ 0#8 ∧ IsFlag b2 ∧ budgetOf b2 b1 b0 ≠ some 0 ∧ number16 n1 n0 ≤ 1023 ∧
    Enabled s u ∧ s.family (number16 f1 f0) = some y ∧ y.state = .opened ∧ (rightsOf r).within y.ceiling = true ∧
    (number16 n1 n0 ≠ 0 → s.slot u (number16 n1 n0) = none) ∧ s.slotsInUse.get u < (s.station u).grantLimit ∧
    s.storeUse < 4096 := by
  decide +kernel

theorem witness_ReadGrantAndReadFamilyShowTheRecord :
    let p : PortId := 1; let s : State := ask 1 0x13 [1, 0, 2]; let f : IngressFrame := askFrame 0x13 [1, 0, 2];
    let rest : List IngressFrame := []; let t : Byte := 1; let n1 : Byte := 0; let n0 : Byte := 2;
    let u : StationId := 1;
    Enabled s p ∧ Requested s p f rest 0x13 [t, n1, n0] ∧ t.toNat = ↑u ∧ (u = p ∨ Manager s p) ∧ 1 ≤ number16 n1 n0 ∧
    number16 n1 n0 ≤ 1023 := by
  decide +kernel

theorem witness_ReadGrantAndReadFamilyShowTheRecord_2 :
    let p : PortId := 0; let s : State := ask 0 0x13 [7, 3, 255]; let f : IngressFrame := askFrame 0x13 [7, 3, 255];
    let rest : List IngressFrame := []; let t : Byte := 7; let n1 : Byte := 3; let n0 : Byte := 255;
    let u : StationId := 7;
    Enabled s p ∧ Requested s p f rest 0x13 [t, n1, n0] ∧ t.toNat = ↑u ∧ (u = p ∨ Manager s p) ∧ 1 ≤ number16 n1 n0 ∧
    number16 n1 n0 ≤ 1023 := by
  decide +kernel

theorem witness_ReadGrantAndReadFamilyShowTheRecord_3 :
    let p : PortId := 1; let s : State := ask 1 0x14 [0, 3]; let f : IngressFrame := askFrame 0x14 [0, 3];
    let rest : List IngressFrame := []; let n1 : Byte := 0; let n0 : Byte := 3; let y : Family := familyThree;
    Enabled s p ∧ Requested s p f rest 0x14 [n1, n0] ∧ s.family (number16 n1 n0) = some y ∧
    (Manager s p ∨ y.issuer = p ∧ y.issuerGeneration = (s.station p).generation) ∧ 1 ≤ number16 n1 n0 ∧
    number16 n1 n0 ≤ 1023 := by
  decide +kernel

theorem witness_OpenQueueOpensAnEmptyQueue :
    let p : PortId := 1; let s : State := ask 1 0x20 [0, 3, 255]; let f : IngressFrame := askFrame 0x20 [0, 3, 255];
    let rest : List IngressFrame := []; let q : Byte := 0; let b : Byte := 3; let d : Byte := 255;
    let band : Band := .b3;
    Requested s p f rest 0x20 [q, b, d] ∧ Enabled s p ∧ q.toNat ≤ 63 ∧ b.toNat = band.number ∧ 1 ≤ d.toNat ∧
    (q.toNat ≠ 0 → s.queue p (q.toNat) = none) ∧ s.rqsInUse.get p < (s.station p).queueLimit := by
  decide +kernel

theorem witness_OpenQueueOpensAnEmptyQueue_2 :
    let p : PortId := 1; let s : State := ask 1 0x20 [63, 0, 1]; let f : IngressFrame := askFrame 0x20 [63, 0, 1];
    let rest : List IngressFrame := []; let q : Byte := 63; let b : Byte := 0; let d : Byte := 1;
    let band : Band := .b0;
    Requested s p f rest 0x20 [q, b, d] ∧ Enabled s p ∧ q.toNat ≤ 63 ∧ b.toNat = band.number ∧ 1 ≤ d.toNat ∧
    (q.toNat ≠ 0 → s.queue p (q.toNat) = none) ∧ s.rqsInUse.get p < (s.station p).queueLimit := by
  decide +kernel

theorem witness_SealUnsealAndSetDepth :
    let p : PortId := 1; let s : State := ask 1 0x21 [5]; let f : IngressFrame := askFrame 0x21 [5];
    let rest : List IngressFrame := []; let q : Byte := 5; let x : Queue := serviceQueue;
    Enabled s p ∧ 1 ≤ q.toNat ∧ q.toNat ≤ 63 ∧ s.queue p (q.toNat) = some x ∧ Requested s p f rest 0x21 [q] ∧
    x.state = .opened := by
  decide +kernel

theorem witness_SealUnsealAndSetDepth_2 :
    let p : PortId := 1; let s : State := ask 1 0x22 [6]; let f : IngressFrame := askFrame 0x22 [6];
    let rest : List IngressFrame := []; let q : Byte := 6; let x : Queue := sealedQueue;
    Enabled s p ∧ 1 ≤ q.toNat ∧ q.toNat ≤ 63 ∧ s.queue p (q.toNat) = some x ∧ Requested s p f rest 0x22 [q] ∧
    x.state = .sealed := by
  decide +kernel

theorem witness_SealUnsealAndSetDepth_3 :
    let p : PortId := 1; let s : State := ask 1 0x23 [5, 3]; let f : IngressFrame := askFrame 0x23 [5, 3];
    let rest : List IngressFrame := []; let q : Byte := 5; let d : Byte := 3; let x : Queue := serviceQueue;
    Enabled s p ∧ 1 ≤ q.toNat ∧ q.toNat ≤ 63 ∧ s.queue p (q.toNat) = some x ∧ Requested s p f rest 0x23 [q, d] ∧
    x.state ≠ .purging ∧ 1 ≤ d.toNat ∧ x.heldMessages ≤ d.toNat := by
  decide +kernel

theorem witness_SetBandAndSetQuanta :
    let p : PortId := 1; let s : State := ask 1 0x28 [6, 3]; let f : IngressFrame := askFrame 0x28 [6, 3];
    let rest : List IngressFrame := []; let q : Byte := 6; let b : Byte := 3; let n : Band := .b3;
    let x : Queue := sealedQueue;
    Enabled s p ∧ Requested s p f rest 0x28 [q, b] ∧ 1 ≤ q.toNat ∧ q.toNat ≤ 63 ∧ b.toNat = n.number ∧
    s.queue p (q.toNat) = some x ∧ x.state ≠ .purging ∧ n ≠ x.band ∧ ¬q.toNat ∈ (s.scheduler p).active.get x.band ∧
    ¬q.toNat ∈ (s.scheduler p).active.get n := by
  decide +kernel

theorem witness_SetBandAndSetQuanta_2 :
    let p : PortId := 1; let s : State := ask 1 0x28 [5, 3]; let f : IngressFrame := askFrame 0x28 [5, 3];
    let rest : List IngressFrame := []; let q : Byte := 5; let b : Byte := 3; let n : Band := .b3;
    let x : Queue := serviceQueue;
    Enabled s p ∧ Requested s p f rest 0x28 [q, b] ∧ 1 ≤ q.toNat ∧ q.toNat ≤ 63 ∧ b.toNat = n.number ∧
    s.queue p (q.toNat) = some x ∧ x.state ≠ .purging ∧ n ≠ x.band ∧ q.toNat ∈ (s.scheduler p).active.get x.band := by
  decide +kernel

theorem witness_SetBandAndSetQuanta_3 :
    let p : PortId := 1; let s : State := ask 1 0x29 [1, 32, 2]; let f : IngressFrame := askFrame 0x29 [1, 32, 2];
    let rest : List IngressFrame := []; let q : Byte := 1; let b : Byte := 32; let c : Byte := 2;
    Enabled s p ∧ Requested s p f rest 0x29 [q, b, c] ∧ 1 ≤ q.toNat ∧ q.toNat ≤ 32 ∧ 1 ≤ b.toNat ∧ b.toNat ≤ 32 ∧
    1 ≤ c.toNat ∧ c.toNat ≤ 32 := by
  decide +kernel

/-- RQ 5 of station 1 is given band 1, which it has. -/
theorem witness_SetBandAndSetQuanta_present :
    let s : State := ask 1 0x28 [5, 1];
    Enabled s 1 ∧ Requested s 1 (askFrame 0x28 [5, 1]) [] 0x28 [5, 1] ∧ (1 : Byte).toNat = serviceQueue.band.number ∧
    s.queue 1 (5 : Byte).toNat = some serviceQueue ∧ serviceQueue.state ≠ .purging := by
  decide +kernel

theorem witness_ReadQueueAndReadPoolShowTheCounts :
    let p : PortId := 1; let s : State := ask 1 0x24 [1, 5]; let f : IngressFrame := askFrame 0x24 [1, 5];
    let rest : List IngressFrame := []; let t : Byte := 1; let q : Byte := 5; let u : StationId := 1;
    Enabled s p ∧ Requested s p f rest 0x24 [t, q] ∧ t.toNat = ↑u ∧ (u = p ∨ Manager s p) ∧ q.toNat ≤ 63 := by
  decide +kernel

theorem witness_ReadQueueAndReadPoolShowTheCounts_2 :
    let p : PortId := 0; let s : State := ask 0 0x24 [4, 63]; let f : IngressFrame := askFrame 0x24 [4, 63];
    let rest : List IngressFrame := []; let t : Byte := 4; let q : Byte := 63; let u : StationId := 4;
    Enabled s p ∧ Requested s p f rest 0x24 [t, q] ∧ t.toNat = ↑u ∧ (u = p ∨ Manager s p) ∧ q.toNat ≤ 63 := by
  decide +kernel

theorem witness_ReadQueueAndReadPoolShowTheCounts_3 :
    let p : PortId := 1; let s : State := ask 1 0x25 []; let f : IngressFrame := askFrame 0x25 [];
    let rest : List IngressFrame := [];
    Enabled s p ∧ Requested s p f rest 0x25 [] := by
  decide +kernel

theorem witness_PortSettingsAndRelease :
    let p : PortId := 0; let s : State := ask 0 0x30 [0, 1, 7]; let f : IngressFrame := askFrame 0x30 [0, 1, 7];
    let rest : List IngressFrame := []; let n : Byte := 0; let a : Byte := 1; let b : Byte := 7; let u : PortId := 0;
    Manager s p ∧ n.toNat = ↑u ∧ Requested s p f rest 0x30 [n, a, b] ∧ 1 ≤ a.toNat ∧ b.toNat ≤ 7 := by
  decide +kernel

theorem witness_PortSettingsAndRelease_2 :
    let p : PortId := 0; let s : State := ask 0 0x42 [7, 1, 1]; let f : IngressFrame := askFrame 0x42 [7, 1, 1];
    let rest : List IngressFrame := []; let n : Byte := 7; let a : Byte := 1; let c : Byte := 1; let u : PortId := 7;
    Manager s p ∧ n.toNat = ↑u ∧ Requested s p f rest 0x42 [n, a, c] ∧ 1 ≤ a.toNat ∧ IsFlag c := by
  decide +kernel

theorem witness_PortSettingsAndRelease_3 :
    let p : PortId := 0; let s : State := ask 0 0x40 [4]; let f : IngressFrame := askFrame 0x40 [4];
    let rest : List IngressFrame := []; let n : Byte := 4; let u : PortId := 4;
    Manager s p ∧ n.toNat = ↑u ∧ Requested s p f rest 0x40 [n] ∧ (s.port u).state = .fenced := by
  decide +kernel

theorem witness_EnableStationSetLimitsAndSetManage :
    let p : PortId := 0; let s : State := ask 0 0x48 [3, 3, 255, 63, 12, 0, 1];
    let f : IngressFrame := askFrame 0x48 [3, 3, 255, 63, 12, 0, 1]; let rest : List IngressFrame := [];
    let n : Byte := 3; let g1 : Byte := 3; let g0 : Byte := 255; let q : Byte := 63; let c1 : Byte := 12;
    let c0 : Byte := 0; let m : Byte := 1; let u : StationId := 3;
    Manager s p ∧ n.toNat = ↑u ∧ Requested s p f rest 0x48 [n, g1, g0, q, c1, c0, m] ∧ number16 g1 g0 ≤ 1023 ∧
    q.toNat ≤ 63 ∧ number16 c1 c0 ≤ 3072 ∧ IsFlag m ∧ (s.station u).state = .absent := by
  decide +kernel

theorem witness_EnableStationSetLimitsAndSetManage_2 :
    let p : PortId := 0; let s : State := ask 0 0x49 [1, 0, 3, 2, 0, 3];
    let f : IngressFrame := askFrame 0x49 [1, 0, 3, 2, 0, 3]; let rest : List IngressFrame := []; let n : Byte := 1;
    let g1 : Byte := 0; let g0 : Byte := 3; let q : Byte := 2; let c1 : Byte := 0; let c0 : Byte := 3;
    let u : StationId := 1;
    Manager s p ∧ n.toNat = ↑u ∧ Requested s p f rest 0x49 [n, g1, g0, q, c1, c0] ∧ number16 g1 g0 ≤ 1023 ∧
    q.toNat ≤ 63 ∧ number16 c1 c0 ≤ 3072 ∧ Enabled s u ∧ s.slotsInUse.get u ≤ number16 g1 g0 ∧
    s.rqsInUse.get u ≤ q.toNat ∧ s.heldCells.get u ≤ number16 c1 c0 := by
  decide +kernel

theorem witness_EnableStationSetLimitsAndSetManage_3 :
    let p : PortId := 0; let s : State := ask 0 0x4A [0, 0]; let f : IngressFrame := askFrame 0x4A [0, 0];
    let rest : List IngressFrame := []; let n : Byte := 0; let m : Byte := 0; let u : StationId := 0;
    Manager s p ∧ n.toNat = ↑u ∧ Requested s p f rest 0x4A [n, m] ∧ IsFlag m ∧ Enabled s u ∧
    (m = 1#8 ∨ ¬Manager s u ∨ holders s ≠ 1) := by
  decide +kernel

theorem witness_EnableStationSetLimitsAndSetManage_4 :
    let p : PortId := 0;
    let s : State := { ask 0 0x4A [0, 0] with stations := Bank.set world.stations 2 Station.resetAbsent };
    let f : IngressFrame := askFrame 0x4A [0, 0]; let rest : List IngressFrame := []; let n : Byte := 0;
    let m : Byte := 0; let u : StationId := 0;
    Manager s p ∧ n.toNat = ↑u ∧ Requested s p f rest 0x4A [n, m] ∧ IsFlag m ∧ Enabled s u ∧ m = 0#8 ∧ Manager s u ∧
    holders s = 1 := by
  decide +kernel

theorem witness_ClearTablesKeepsTheRequester :
    let p : PortId := 2; let s : State := ask 2 0x4F []; let f : IngressFrame := askFrame 0x4F [];
    let rest : List IngressFrame := [];
    Manager s p ∧ Requested s p f rest 0x4F [] ∧ (s.port p).state = .active := by
  decide +kernel

theorem witness_ReadStationAndReadDeviceShowTheStations :
    let p : PortId := 1; let s : State := ask 1 0x4B [1]; let f : IngressFrame := askFrame 0x4B [1];
    let rest : List IngressFrame := []; let n : Byte := 1; let u : StationId := 1;
    Requested s p f rest 0x4B [n] ∧ n.toNat = ↑u ∧ Enabled s p ∧ (u = p ∨ Manager s p) := by
  decide +kernel

theorem witness_ReadStationAndReadDeviceShowTheStations_2 :
    let p : PortId := 1; let s : State := ask 1 0x4C []; let f : IngressFrame := askFrame 0x4C [];
    let rest : List IngressFrame := [];
    Requested s p f rest 0x4C [] := by
  decide +kernel

theorem witness_ReadPortAndReadSweepShowTheirUnits :
    let p : PortId := 0; let s : State := ask 0 0x41 [1]; let f : IngressFrame := askFrame 0x41 [1];
    let rest : List IngressFrame := []; let n : Byte := 1; let u : PortId := 1;
    Enabled s p ∧ Requested s p f rest 0x41 [n] ∧ n.toNat = ↑u ∧ (u = p ∨ Manager s p) := by
  decide +kernel

theorem witness_ReadPortAndReadSweepShowTheirUnits_2 :
    let p : PortId := 1; let s : State := ask 1 0x3B []; let f : IngressFrame := askFrame 0x3B [];
    let rest : List IngressFrame := [];
    Enabled s p ∧ Requested s p f rest 0x3B [] := by
  decide +kernel

theorem witness_RevokeFamilyStartsASweep :
    let p : PortId := 1; let s : State := ask 1 0x38 [0, 1]; let f : IngressFrame := askFrame 0x38 [0, 1];
    let rest : List IngressFrame := []; let n1 : Byte := 0; let n0 : Byte := 1; let y : Family := familyOne;
    Requested s p f rest 0x38 [n1, n0] ∧ Enabled s p ∧
    (Manager s p ∨ y.issuer = p ∧ y.issuerGeneration = (s.station p).generation) ∧ 1 ≤ number16 n1 n0 ∧
    number16 n1 n0 ≤ 1023 ∧ s.family (number16 n1 n0) = some y ∧ y.state = .opened ∧ s.sweep = none := by
  decide +kernel

theorem witness_RevokeFamilyStartsASweep_2 :
    let p : PortId := 0; let s : State := { ask 0 0x38 [0, 4] with lastTicket := 255 };
    let f : IngressFrame := askFrame 0x38 [0, 4]; let rest : List IngressFrame := []; let n1 : Byte := 0;
    let n0 : Byte := 4; let y : Family := familyFour;
    Requested s p f rest 0x38 [n1, n0] ∧ Enabled s p ∧
    (Manager s p ∨ y.issuer = p ∧ y.issuerGeneration = (s.station p).generation) ∧ 1 ≤ number16 n1 n0 ∧
    number16 n1 n0 ≤ 1023 ∧ s.family (number16 n1 n0) = some y ∧ y.state = .opened ∧ s.sweep = none := by
  decide +kernel

theorem witness_PurgeQueueStartsASweep :
    let p : PortId := 1; let s : State := ask 1 0x39 [1, 5]; let f : IngressFrame := askFrame 0x39 [1, 5];
    let rest : List IngressFrame := []; let n : Byte := 1; let q : Byte := 5; let u : StationId := 1;
    let x : Queue := serviceQueue;
    Requested s p f rest 0x39 [n, q] ∧ n.toNat = ↑u ∧ Enabled s p ∧ (u = p ∨ Manager s p) ∧ 1 ≤ q.toNat ∧
    q.toNat ≤ 63 ∧ s.queue u (q.toNat) = some x ∧ x.state ≠ .purging ∧ s.sweep = none := by
  decide +kernel

theorem witness_EvictStationStartsASweep :
    let p : PortId := 0; let s : State := ask 0 0x3A [2]; let f : IngressFrame := askFrame 0x3A [2];
    let rest : List IngressFrame := []; let n : Byte := 2; let u : StationId := 2; let q : Nat := 0;
    let x : Queue := ⟨.opened, .b0, 32, [], 0, 0, 0, false⟩;
    Requested s p f rest 0x3A [n] ∧ n.toNat = ↑u ∧ Manager s p ∧ u ≠ p ∧ Enabled s u ∧ s.sweep = none ∧
    s.queue u q = some x := by
  decide +kernel

theorem witness_EvictStationStartsASweep_2 :
    let p : PortId := 0; let s : State := ask 0 0x3A [2]; let f : IngressFrame := askFrame 0x3A [2];
    let rest : List IngressFrame := []; let n : Byte := 2; let u : StationId := 2;
    let endsSession : Bool := decide ((s.port u).state = .active);
    let freed : List EntryRef := if endsSession = true then (s.port u).window.outstanding else [];
    Requested s p f rest 0x3A [n] ∧ n.toNat = ↑u ∧ Manager s p ∧ u ≠ p ∧ Enabled s u ∧ s.sweep = none ∧
    freed = [] := by
  decide +kernel

theorem witness_SelectionServesBandZeroFirst :
    let p : PortId := 1; let s : State := world; let q : Nat := 0; let turn : List Nat := [];
    let x : Queue := reportQueue; let e : ListEntry := ⟨.report 0, .normal⟩; let r : List ListEntry := [];
    let k : Nat := 0; let m : ReportRecord := ⟨1, .portFenced 4 .retries, 0, false, none⟩;
    SelectionReady s p ∧ (s.scheduler p).active.b0 = q :: turn ∧ s.queue p q = some x ∧ x.list = e :: r ∧
    e.ref = EntryRef.report k ∧ s.report k = some m := by
  decide +kernel

theorem witness_SelectionServesBandZeroFirst_2 :
    let p : PortId := 2; let s : State := withThird (message 2 7 1 none none); let q : Nat := 7;
    let turn : List Nat := []; let x : Queue := backlogQueue; let e : ListEntry := ⟨.message 3, .normal⟩;
    let r : List ListEntry := [⟨.message 4, .normal⟩]; let d : Nat := 3;
    let m : Descriptor := message 2 7 1 none none;
    SelectionReady s p ∧ (s.scheduler p).active.b0 = q :: turn ∧ s.queue p q = some x ∧ x.list = e :: r ∧
    e.ref = EntryRef.message d ∧ s.descriptor d = some m ∧ m.grant = none := by
  decide +kernel

theorem witness_FirstTransmissionResolvesTheGrant :
    let p : PortId := 2; let s : State := world; let q : Nat := 7; let turn : List Nat := [];
    let x : Queue := backlogQueue; let e : ListEntry := ⟨.message 3, .normal⟩;
    let r : List ListEntry := [⟨.message 4, .normal⟩]; let d : Nat := 3;
    let m : Descriptor := message 2 7 1 none (some travelling); let g : CarriedGrant := travelling;
    let y : Family := familyOne;
    SelectionReady s p ∧ (s.scheduler p).active.b0 = q :: turn ∧ s.queue p q = some x ∧ x.list = e :: r ∧
    e.ref = EntryRef.message d ∧ s.descriptor d = some m ∧ m.grant = some g ∧ s.family g.family = some y ∧
    m.repeated = false ∧ g.state = .inTransit ∧ y.state = .opened ∧ s.slotsInUse.get p < (s.station p).grantLimit ∧
    s.storeUse < 4096 := by
  decide +kernel

theorem witness_FirstTransmissionResolvesTheGrant_2 :
    let p : PortId := 2; let s : State := { world with storeUse := 4096 }; let q : Nat := 7;
    let turn : List Nat := []; let x : Queue := backlogQueue; let e : ListEntry := ⟨.message 3, .normal⟩;
    let r : List ListEntry := [⟨.message 4, .normal⟩]; let d : Nat := 3;
    let m : Descriptor := message 2 7 1 none (some travelling); let g : CarriedGrant := travelling;
    let y : Family := familyOne;
    SelectionReady s p ∧ (s.scheduler p).active.b0 = q :: turn ∧ s.queue p q = some x ∧ x.list = e :: r ∧
    e.ref = EntryRef.message d ∧ s.descriptor d = some m ∧ m.grant = some g ∧ s.family g.family = some y ∧
    m.repeated = false ∧ g.state = .inTransit ∧ y.state = .opened ∧ 1 < y.live ∧
    ¬(s.slotsInUse.get p < (s.station p).grantLimit ∧ s.storeUse < 4096) := by
  decide +kernel

theorem witness_FirstTransmissionResolvesTheGrant_3 :
    let p : PortId := 2;
    let s : State := { world with families := Table.put world.families 1 { familyOne with state := .revoking } };
    let q : Nat := 7; let turn : List Nat := []; let x : Queue := backlogQueue;
    let e : ListEntry := ⟨.message 3, .normal⟩; let r : List ListEntry := [⟨.message 4, .normal⟩]; let d : Nat := 3;
    let m : Descriptor := message 2 7 1 none (some travelling); let g : CarriedGrant := travelling;
    let y : Family := { familyOne with state := .revoking };
    SelectionReady s p ∧ (s.scheduler p).active.b0 = q :: turn ∧ s.queue p q = some x ∧ x.list = e :: r ∧
    e.ref = EntryRef.message d ∧ s.descriptor d = some m ∧ m.grant = some g ∧ s.family g.family = some y ∧
    m.repeated = false ∧ g.state = .inTransit ∧ y.state = .revoking ∧ 1 < y.live := by
  decide +kernel

theorem witness_FirstTransmissionResolvesTheGrant_4 :
    let p : PortId := 2; let s : State := withThird (returned (.reserved 1)); let q : Nat := 7;
    let turn : List Nat := []; let x : Queue := backlogQueue; let e : ListEntry := ⟨.message 3, .normal⟩;
    let r : List ListEntry := [⟨.message 4, .normal⟩]; let d : Nat := 3; let m : Descriptor := returned (.reserved 1);
    let g : CarriedGrant := { travelling with state := .reserved 1 }; let y : Family := familyOne; let k : Nat := 1;
    SelectionReady s p ∧ (s.scheduler p).active.b0 = q :: turn ∧ s.queue p q = some x ∧ x.list = e :: r ∧
    e.ref = EntryRef.message d ∧ s.descriptor d = some m ∧ m.grant = some g ∧ s.family g.family = some y ∧
    m.repeated = true ∧ g.state = .reserved k := by
  decide +kernel

theorem witness_FirstTransmissionResolvesTheGrant_5 :
    let p : PortId := 2; let s : State := withThird (returned (.void .revoked)); let q : Nat := 7;
    let turn : List Nat := []; let x : Queue := backlogQueue; let e : ListEntry := ⟨.message 3, .normal⟩;
    let r : List ListEntry := [⟨.message 4, .normal⟩]; let d : Nat := 3;
    let m : Descriptor := returned (.void .revoked);
    let g : CarriedGrant := { travelling with state := .void .revoked }; let y : Family := familyOne;
    SelectionReady s p ∧ (s.scheduler p).active.b0 = q :: turn ∧ s.queue p q = some x ∧ x.list = e :: r ∧
    e.ref = EntryRef.message d ∧ s.descriptor d = some m ∧ m.grant = some g ∧ s.family g.family = some y ∧
    m.repeated = true ∧ g.state = .void VoidReason.revoked := by
  decide +kernel

/-- The last copy of family 1 finds no room, and is revoked. -/
theorem witness_FirstTransmissionResolvesTheGrant_6 : ∀ st : FamilyState,
    let s : State := { onFamily world 1 (lastCopyOne st) with storeUse := 4096 };
    SelectionReady s 2 ∧ (s.scheduler 2).active.b0 = [7] ∧ s.queue 2 7 = some backlogQueue ∧
    backlogQueue.list = [⟨.message 3, .normal⟩, ⟨.message 4, .normal⟩] ∧
    s.descriptor 3 = some (message 2 7 1 none (some travelling)) ∧
    (message 2 7 1 none (some travelling)).repeated = false ∧ travelling.state = .inTransit ∧
    s.family travelling.family = some (lastCopyOne st) ∧
    (lastCopyOne st).state = st ∧ (lastCopyOne st).live ≤ 1 ∧
    ¬ (Bank.get s.slotsInUse 2 < (s.station 2).grantLimit ∧ s.storeUse < 4096) := by
  intro st
  cases st <;> decide +kernel

theorem witness_ExpirySendsTheWindowAgainOrFences :
    let p : PortId := 1; let s : State := due 1 2;
    (s.port p).window.timer = some 0 ∧ (s.port p).window.retryCount + 1 ≤ (s.port p).window.retryLimit := by
  decide +kernel

theorem witness_ExpirySendsTheWindowAgainOrFences_2 :
    (world.port 2).window.timer = none ∧ (world.port 1).window.timer = some 9 := by
  decide +kernel

theorem witness_ExpirySendsTheWindowAgainOrFences_3 : RetryFence (due 1 3) 1 := by
  decide +kernel

theorem witness_ExpirySendsTheWindowAgainOrFences_4 :
    let p : PortId := 1; let s : State := due 1 0;
    Acks s 4 15 ∧ (∃ e ∈ (s.port p).window.outstanding, s.entrySeq e = some 0) ∧ 1 ≤ (s.port p).window.ackTimeout := by
  decide +kernel

theorem witness_EgressLinkServesClassesInOrder :
    let p : PortId := 4; let s : State := world; let x : PortLink := s.port p;
    x.state = .down ∨ x.state = .fenced := by
  decide +kernel

theorem witness_EgressLinkServesClassesInOrder_2 :
    let p : PortId := 1; let s : State := onPort world 1 (fun x => { x with linkReply := some .closed });
    let x : PortLink := s.port p; let r : LinkReply := .closed;
    (x.state = .idle ∨ x.state = .active) ∧ x.linkReply = some r := by
  decide +kernel

theorem witness_EgressLinkServesClassesInOrder_3 :
    let p : PortId := 1; let s : State := onPort world 1 (fun x => { x with answers := [refusal] });
    let x : PortLink := s.port p; let a : Answer := refusal; let rest : List Answer := [];
    (x.state = .idle ∨ x.state = .active) ∧ x.linkReply = none ∧ x.answers = a :: rest := by
  decide +kernel

theorem witness_EgressLinkServesClassesInOrder_4 :
    let p : PortId := 1;
    let s : State := onPort world 1 (fun x => { x with window := { x.window with retransmissions := [silentFrame] }
      }); let x : PortLink := s.port p; let f : DeliveryFrame := silentFrame; let rest : List DeliveryFrame := [];
    (x.state = .idle ∨ x.state = .active) ∧ x.linkReply = none ∧ x.answers = [] ∧
    x.window.retransmissions = f :: rest := by
  decide +kernel

theorem witness_EgressLinkServesClassesInOrder_5 :
    let p : PortId := 1;
    let s : State := onPort world 1 (fun x => { x with window := { x.window with newDeliveries := [silentFrame] } });
    let x : PortLink := s.port p; let f : DeliveryFrame := silentFrame; let rest : List DeliveryFrame := [];
    (x.state = .idle ∨ x.state = .active) ∧ x.linkReply = none ∧ x.answers = [] ∧ x.window.retransmissions = [] ∧
    x.window.newDeliveries = f :: rest := by
  decide +kernel

theorem witness_EgressLinkServesClassesInOrder_6 :
    let p : PortId := 1; let s : State := world; let x : PortLink := s.port p;
    (x.state = .idle ∨ x.state = .active) ∧ x.linkReply = none ∧ x.answers = [] ∧ x.window.retransmissions = [] ∧
    x.window.newDeliveries = [] := by
  decide +kernel

theorem witness_SlotPassStepFreesAndMovesOn :
    let s : State := sweeping (sweepOf 1 (.slotPass 3 1023) (.revoke 3));
    let x : Sweep := sweepOf 1 (.slotPass 3 1023) (.revoke 3); let t : StationId := 3; let n : Nat := 1023;
    let u : StationId := 4; let m : Nat := 1;
    s.sweep = some x ∧ x.cursor = .slotPass t n ∧ SlotAfter t n u m ∧
    (∀ (z : Slot), s.slot t n = some z → ¬ToBeFreed s x t z) := by
  decide +kernel

theorem witness_SlotPassStepFreesAndMovesOn_2 :
    let s : State := sweeping (sweepOf 1 (.slotPass 2 1) (.evict 2));
    let x : Sweep := sweepOf 1 (.slotPass 2 1) (.evict 2); let t : StationId := 2; let n : Nat := 1;
    let u : StationId := 2; let m : Nat := 2; let z : Slot := ⟨.defined, 1, allRights, some 1⟩;
    let y : Family := familyOne;
    s.sweep = some x ∧ x.cursor = .slotPass t n ∧ SlotAfter t n u m ∧ s.slot t n = some z ∧ ToBeFreed s x t z ∧
    s.family z.family = some y ∧ 1 < y.live ∧ z.status = .defined := by
  decide +kernel

theorem witness_SlotPassStepFreesAndMovesOn_3 :
    let s : State := sweeping (sweepOf 1 (.slotPass 1 2) (.revoke 3));
    let x : Sweep := sweepOf 1 (.slotPass 1 2) (.revoke 3); let t : StationId := 1; let n : Nat := 2;
    let u : StationId := 1; let m : Nat := 3; let z : Slot := ⟨.reserved 1, 3, allRights, none⟩;
    let y : Family := familyThree; let d : Nat := 1; let k : Descriptor := message 1 5 0 (some 1) (some grantThree);
    let g : CarriedGrant := grantThree;
    s.sweep = some x ∧ x.cursor = .slotPass t n ∧ SlotAfter t n u m ∧ s.slot t n = some z ∧ ToBeFreed s x t z ∧
    s.family z.family = some y ∧ 1 < y.live ∧ z.status = .reserved d ∧ s.descriptor d = some k ∧ k.grant = some g ∧
    g.state = .reserved n := by
  decide +kernel

theorem witness_SlotPassStepFreesAndMovesOn_4 :
    let s : State := sweeping (sweepOf 9 (.slotPass 7 1023) (.revoke 3));
    let x : Sweep := sweepOf 9 (.slotPass 7 1023) (.revoke 3); let t : StationId := 7; let n : Nat := 1023;
    let f : Nat := 3;
    s.sweep = some x ∧ x.cursor = .slotPass t n ∧ t = 7 ∧ n = 1023 ∧
    (∀ (z : Slot), s.slot t n = some z → ¬ToBeFreed s x t z) ∧ x.subject = .revoke f ∧ ¬ToldTo s x := by
  decide +kernel

theorem witness_SlotPassStepFreesAndMovesOn_5 :
    let s : State := sweeping (sweepOf 1 (.slotPass 7 1023) (.revoke 3));
    let x : Sweep := sweepOf 1 (.slotPass 7 1023) (.revoke 3); let t : StationId := 7; let n : Nat := 1023;
    let f : Nat := 3; let q : Queue := Queue.freshReportQueue;
    s.sweep = some x ∧ x.cursor = .slotPass t n ∧ t = 7 ∧ n = 1023 ∧
    (∀ (z : Slot), s.slot t n = some z → ¬ToBeFreed s x t z) ∧ x.subject = .revoke f ∧ ToldTo s x ∧
    s.queue x.requester 0 = some q ∧ s.freeReports ≠ 0 ∧ q.heldMessages < 32 := by
  decide +kernel

theorem witness_SlotPassStepFreesAndMovesOn_6 :
    let s : State := sweeping (sweepOf 1 (.slotPass 7 1023) (.purge 1 5));
    let x : Sweep := sweepOf 1 (.slotPass 7 1023) (.purge 1 5); let t : StationId := 7; let n : Nat := 1023;
    let u : StationId := 1; let q : Nat := 5;
    s.sweep = some x ∧ x.cursor = .slotPass t n ∧ t = 7 ∧ n = 1023 ∧
    (∀ (z : Slot), s.slot t n = some z → ¬ToBeFreed s x t z) ∧ x.subject = .purge u q := by
  decide +kernel

theorem witness_SlotPassStepFreesAndMovesOn_7 :
    let s : State := sweeping (sweepOf 1 (.slotPass 7 1023) (.evict 4));
    let x : Sweep := sweepOf 1 (.slotPass 7 1023) (.evict 4); let t : StationId := 7; let n : Nat := 1023;
    let u : StationId := 4; let q : Nat := 0; let y : Queue := ⟨.purging, .b0, 32, [], 0, 0, 0, false⟩;
    s.sweep = some x ∧ x.cursor = .slotPass t n ∧ t = 7 ∧ n = 1023 ∧
    (∀ (z : Slot), s.slot t n = some z → ¬ToBeFreed s x t z) ∧ x.subject = .evict u ∧ s.queue u q = some y ∧
    y.state = .purging ∧ (∀ (e : Nat × Queue), e ∈ s.queues.get u → e.fst < q → e.snd.state ≠ .purging) ∧
    (s.queues.get u).canonical = true := by
  decide +kernel

/-- Slot (7, 1023) is FREE, or DEFINED or RESERVED with the last copy of its REVOKING family. -/
def atLastSlot (x : Sweep) (z : Option Slot) : State :=
  let s := onFamily (sweeping x) 3 lastCopyThree
  { s with
    tables := Bank.set world.tables 7 (z.elim [] (fun y => [(1023, y)]))
    descriptors := [(1, message 7 5 0 (some 1) (some { grantThree with state := .reserved 1023 }))] }

theorem witness_SlotPassStepFreesAndMovesOn_8 (j : SweepSubject) :
    let x : Sweep := sweepOf 1 (.slotPass 7 1023) j;
    (∃ h x', SlotReached (atLastSlot x none) x 7 1023 h x') ∧
    (∃ h x', SlotReached (atLastSlot x (some slotRevoked)) x 7 1023 h x') ∧
    ∃ h x', SlotReached (atLastSlot x (some { heldTwo with status := .reserved 1 })) x 7 1023 h x' :=
  ⟨⟨_, _, .passed (fun z hz => nomatch (show (none : Option Slot) = some z from hz))⟩,
    ⟨_, _, .defined slotRevoked lastCopyThree rfl (Or.inl ⟨lastCopyThree, rfl, rfl⟩) rfl rfl⟩,
    ⟨_, _, .reserved { heldTwo with status := .reserved 1 } lastCopyThree 1
      (message 7 5 0 (some 1) (some { grantThree with state := .reserved 1023 }))
      { grantThree with state := .reserved 1023 } rfl (Or.inl ⟨lastCopyThree, rfl, rfl⟩) rfl rfl rfl rfl rfl⟩⟩

/-- Before the last slot: a RESERVED slot with its family's last copy, and a FREE last slot of a table. -/
theorem witness_SlotPassStepFreesAndMovesOn_10 :
    let x : Sweep := sweepOf 1 (.slotPass 1 2) (.revoke 3); let s : State := onFamily (sweeping x) 3 lastCopyThree;
    (∃ h x', SlotReached s x 1 2 h x') ∧ SlotAfter 1 2 1 3 ∧
    ∃ h x', SlotReached (sweeping (sweepOf 1 (.slotPass 6 1023) (.revoke 3))) x 6 1023 h x' ∧ SlotAfter 6 1023 7 1 :=
  ⟨⟨_, _, .reserved heldTwo lastCopyThree 1 deliveryTwo grantThree rfl (Or.inl ⟨lastCopyThree, rfl, rfl⟩) rfl rfl rfl rfl
      rfl⟩, by decide, ⟨_, _, .passed (fun z hz => nomatch (show (none : Option Slot) = some z from hz)), by decide⟩⟩

/-- An EVICT sweep of station 4 goes on to its queue pass at RQ 0. -/
theorem witness_SlotPassStepFreesAndMovesOn_9 :
    let x : Sweep := sweepOf 1 (.slotPass 7 1023) (.evict 4);
    SlotReached (sweeping x) x 7 1023 (sweeping x) x ∧ NextPurging (sweeping x) 4 0 0 :=
  ⟨.passed (fun z hz => absurd hz (by decide +kernel +revert)),
    by decide +kernel, by decide, ⟨_, rfl, rfl⟩, by decide +kernel⟩

/-- Two entries are listed: a message without a grant, one whose grant is IN_TRANSIT, one whose grant is RESERVED, and a
report. -/
theorem witness_QueuePassStepFreesTheHead (e : EntryRef) (he : e ∈ [.message 2, .message 3, .message 0, .report 0]) :
    let y : Queue := purgingQueue [⟨e, .returned⟩, ⟨.message 1, .returned⟩] 0 2 2;
    let s : State := purging 1 y;
    s.sweep = some (sweepOf 1 (.queuePass 1 5) (.purge 1 5)) ∧ s.queue 1 5 = some y ∧ y.state = .purging ∧
    y.passComplete = false ∧
    ∃ slots h, Withdrawn (withQueue s 1 5 { y with list := [⟨.message 1, .returned⟩] }) false e slots h := by
  simp only [List.mem_cons, List.not_mem_nil, or_false] at he
  rcases he with h | h | h | h <;> subst h <;> refine ⟨rfl, by decide +kernel, rfl, rfl, ?_⟩
  · exact ⟨_, _, .plain 2 (message 1 5 2 none none) rfl (Or.inl rfl)⟩
  · exact ⟨_, _, .inTransit 3 (message 2 7 1 none (some travelling)) travelling familyOne rfl rfl rfl rfl⟩
  · exact ⟨_, _, .reserved 0 deliveryOne grantOne 1 heldOne familyOne rfl rfl rfl (by decide +kernel) rfl rfl⟩
  · exact ⟨_, _, .report 0 ⟨1, .portFenced 4 .retries, 0, false, none⟩ rfl⟩

/-- The list is empty: while deliveries are outstanding, and with nothing held. -/
theorem witness_QueuePassStepFreesTheHead_2 : ∀ y ∈ [purgingQueue [] 2 2 1, purgingQueue [] 0 0 0],
    let s : State := purging 1 y;
    s.sweep = some (sweepOf 1 (.queuePass 1 5) (.purge 1 5)) ∧ s.queue 1 5 = some y ∧ y.state = .purging ∧
    y.passComplete = false ∧ y.list = [] ∧ ToldTo s (sweepOf 1 (.queuePass 1 5) (.purge 1 5)) := by
  decide +kernel

/-- The last entry is listed, with nothing else held; SWEEP COMPLETE can be placed, or no report record is FREE. -/
theorem witness_QueuePassStepFreesTheHead_3 :
    let x : Sweep := sweepOf 1 (.queuePass 1 5) (.purge 1 5);
    let y : Queue := purgingQueue [⟨.message 2, .normal⟩] 0 1 2;
    (∃ h x', LastFreed (purging 1 y) x 1 5 y h x') ∧ ToldTo (purging 1 y) x ∧ (purging 1 y).freeReports = 63 ∧
    (∃ h x', LastFreed { purging 1 y with freeReports := 0 } x 1 5 y h x') ∧
    ToldTo { purging 1 y with freeReports := 0 } x :=
  ⟨⟨_, _, .last ⟨.message 2, .normal⟩ 0 _ rfl (.plain 2 (message 1 5 2 none none) rfl (Or.inl rfl))⟩, by decide +kernel,
    by decide +kernel, ⟨_, _, .last ⟨.message 2, .normal⟩ 0 _ rfl (.plain 2 (message 1 5 2 none none) rfl (Or.inl rfl))⟩,
    by decide +kernel⟩

/-- Station 4 while it is evicted, with RQ 0 empty and RQ 9 before its pass. -/
def evicting (x : Sweep) : State := onQueue (sweeping x) 4 9 (purgingQueue [] 0 0 0)

/-- From RQ 0 an EVICT goes on to RQ 9, and at RQ 9 it ends; both lists are empty. -/
theorem witness_QueuePassStepFreesTheHead_4 :
    let x : Sweep := sweepOf 1 (.queuePass 4 0) (.evict 4); let z : Sweep := sweepOf 1 (.queuePass 4 9) (.evict 4);
    let y : Queue := ⟨.purging, .b0, 32, [], 0, 0, 0, false⟩;
    (evicting x).queue 4 0 = some y ∧ LastFreed (evicting x) x 4 0 y (evicting x) x ∧
    NextPurging (queueMarked (evicting x) 4 0) 4 (0 + 1) 9 ∧
    (evicting z).queue 4 9 = some (purgingQueue [] 0 0 0) ∧
    LastFreed (evicting z) z 4 9 (purgingQueue [] 0 0 0) (evicting z) z ∧
    (∀ e ∈ Bank.get (queueMarked (evicting z) 4 9).queues 4, 9 < e.1 → e.2.state ≠ .purging) ∧ ToldTo (evicting z) z :=
  ⟨by decide +kernel, .empty rfl, ⟨by decide +kernel, by decide, ⟨purgingQueue [] 0 0 0, by decide +kernel, rfl⟩,
    by decide +kernel⟩, by decide +kernel, .empty rfl, by decide +kernel, by decide +kernel⟩

/-! ### Witnesses for the statements over every request, the turns of a selection, and the invariants -/

/-- For every request: a frame of the wrong length on an ACTIVE port. -/
theorem witness_MalformedRequests : ∀ e ∈ requests,
    let params : List Byte := List.replicate (e.2.1 + 1) 0
    let body := asking (BitVec.ofNat 8 e.1) params
    let s := offer world 0 .control body
    Offered s 0 .control (frame .control body) [] body ∧ (s.port 0).state = .active ∧
      (s.port 0).protocolErrors + 1 ≠ (s.port 0).protocolLimit ∧ e.1 = (BitVec.ofNat 8 e.1).toNat ∧
      params.length ≠ e.2.1 := by
  decide +kernel

/-- For every request: a well-formed frame from a station that is not ENABLED. -/
theorem witness_NotEnabledRequests : ∀ e ∈ requests,
    let params : List Byte := List.replicate e.2.1 0
    let body := asking (BitVec.ofNat 8 e.1) params
    let s := offer (onPort world 4 (fun _ => activePort 9)) 4 .control body
    Offered s 4 .control (frame .control body) [] body ∧ (s.port 4).state = .active ∧
      (s.port 4).protocolErrors + 1 ≠ (s.port 4).protocolLimit ∧ e.1 = (BitVec.ofNat 8 e.1).toNat ∧
      (BitVec.ofNat 8 params.length).toNat = params.length ∧ params.length = e.2.1 ∧ ¬ Enabled s 4 := by
  decide +kernel

/-- Zero bytes are a defined encoding in every request. -/
theorem witness_EncodingsDefined : ∀ e ∈ requests, EncodingsDefined e.1 (List.replicate e.2.1 0) := by
  intro e he
  simp only [requests, List.cons_append, List.nil_append, List.mem_cons, List.not_mem_nil, or_false] at he
  rcases he with h | h | h | h | h | h | h | h | h | h | h | h | h | h | h | h | h | h | h | h | h | h | h | h | h | h | h <;>
    subst h <;> simp [EncodingsDefined, IsFlag, List.replicate]

/-- A rights byte of 16 is not a defined encoding. -/
theorem witness_EncodingNotDefined : ¬ EncodingsDefined 0x10 [5, 16, 0, 0, 0, 0, 0, 0, 0, 0] := by
  simp [EncodingsDefined]

/-- Codes outside the catalogue, with a parameter length that agrees and one that does not. -/
theorem witness_UnknownRequests :
    (∀ e ∈ requests, e.1 ≠ (0x15 : Byte).toNat) ∧
    Offered (ask 1 0x15 [9]) 1 .control (askFrame 0x15 [9]) [] [0x15, 1, 9] ∧
    Offered (offer world 1 .control [0x15, 2, 9]) 1 .control (frame .control [0x15, 2, 9]) [] [0x15, 2, 9] := by
  decide +kernel

/-- For every request of class MANAGE: station 1, which does not hold it, asks. -/
theorem witness_ManageRequests : ∀ e ∈ requests, e.1 ∈ manageCodes →
    let params : List Byte := List.replicate e.2.1 0
    let s := ask 1 (BitVec.ofNat 8 e.1) params
    e.1 = (BitVec.ofNat 8 e.1).toNat ∧ params.length = e.2.1 ∧ Enabled s 1 ∧ ¬ Manager s 1 ∧
      Requested s 1 (askFrame (BitVec.ofNat 8 e.1) params) [] (BitVec.ofNat 8 e.1) params := by
  decide +kernel

/-- For every request that names a station first: station 0, which holds MANAGE, names station 8. -/
theorem witness_StationsAboveSeven : ∀ e ∈ requests, e.1 ∈ manageCodes ++ [0x13, 0x24, 0x39, 0x41, 0x4B] → e.1 ≠ 0x4F →
    let params : List Byte := 8 :: List.replicate (e.2.1 - 1) 0
    let s := ask 0 (BitVec.ofNat 8 e.1) params
    e.1 = (BitVec.ofNat 8 e.1).toNat ∧ params.length = e.2.1 ∧ Enabled s 0 ∧ Manager s 0 ∧
      Requested s 0 (askFrame (BitVec.ofNat 8 e.1) params) [] (BitVec.ofNat 8 e.1) params := by
  decide +kernel

/-- A station without MANAGE names another, and a MANAGE holder asks for its own eviction. -/
theorem witness_NotPermitted :
    Requested (ask 1 0x4B [0]) 1 (askFrame 0x4B [0]) [] 0x4B [0] ∧ Enabled (ask 1 0x4B [0]) 1 ∧
    ¬ Manager (ask 1 0x4B [0]) 1 ∧
    Requested (ask 0 0x3A [0]) 0 (askFrame 0x3A [0]) [] 0x3A [0] ∧ Enabled (ask 0 0x3A [0]) 0 := by
  decide +kernel

/-- READ FAMILY and REVOKE FAMILY of another station's family, of a FREE one, and, with MANAGE, of 0 and of 1024. -/
theorem witness_NotPermitted_family : ∀ code ∈ [(0x14 : Byte), 0x38], ∀ n ∈ [(4 : Byte), 9],
    let s := ask 1 code [0, n]
    code.toNat ∈ requests.map (fun e => e.1) ∧
    Requested s 1 (askFrame code [0, n]) [] code [0, n] ∧ Enabled s 1 ∧ ¬ Manager s 1 ∧
      ∀ y ∈ s.family (number16 0 n), ¬ (y.issuer = 1 ∧ y.issuerGeneration = (s.station 1).generation) := by
  decide +kernel

theorem witness_NotPermitted_familyRange : ∀ code ∈ [(0x14 : Byte), 0x38], ∀ n ∈ [(0 : Byte), 4],
    let s := ask 0 code [n, 0]
    code.toNat ∈ requests.map (fun e => e.1) ∧ Enabled s 0 ∧
    Requested s 0 (askFrame code [n, 0]) [] code [n, 0] ∧ Manager s 0 ∧ (number16 n 0 = 0 ∨ 1023 < number16 n 0) := by
  decide +kernel

/-- SEAL QUEUE of an UNUSED queue is refused with NO_SUCH. -/
theorem witness_RefusedRequestsChangeNothing :
    ∃ t, exec (.sealQueue 1) (ask 1 0x21 [9]) = .next t ∧
      Offered (ask 1 0x21 [9]) 1 .control (askFrame 0x21 [9]) [] [0x21, 1, 9] ∧
      (t.port 1).answers = ((ask 1 0x21 [9]).port 1).answers ++ [.response 3 6 .noSuch []] :=
  ⟨_, rfl, by decide +kernel, by decide +kernel⟩

theorem witness_SelectionByDeficitRoundRobin :
    SelectionReady turning 1 ∧ (turning.scheduler 1).active.b0 = [] ∧
    (∃ b : DrrBand, (turning.scheduler 1).active.get b.band ≠ []) ∧
    (∀ b : DrrBand, 1 ≤ (turning.station 1).quanta.get b ∧
      ((turning.scheduler 1).active.get b.band ≠ [] → ∃ c, headCostOf turning 1 b = some c ∧ c ≤ 7)) ∧
    (∀ b : DrrBand, ((turning.scheduler 1).active.get b.band).Nodup) ∧
    (∀ e ∈ turning.descriptors, ∀ g ∈ e.2.grant, g.state = .inTransit → ∀ y ∈ turning.family g.family,
      y.reportOnClose = true → 1 < y.live) := by
  refine ⟨by decide +kernel, by decide +kernel, ⟨.b1, by decide +kernel⟩, ?_, ?_, by decide +kernel⟩
  · intro b
    cases b
    · exact ⟨by decide +kernel, fun _ => ⟨7, by decide +kernel, by decide⟩⟩
    · exact ⟨by decide +kernel, fun _ => ⟨1, by decide +kernel, by decide⟩⟩
    · exact ⟨by decide +kernel, fun _ => ⟨6, by decide +kernel, by decide⟩⟩
  · intro b
    cases b <;> decide +kernel

/-- `world` with an ACK waiting that frees a message and defines its slot. -/
def acknowledging : State := { world with pending := [.ack 1 (sealFrame [0x03, 4, 1, 0, 1])] }

theorem witness_StepsKeepSlotsCounted :
    acknowledging.slotsCounted ∧ (after (step acknowledging)).isSome = true := by decide +kernel

theorem witness_StepsKeepThePoolWhole :
    acknowledging.storesCanonical ∧ acknowledging.poolConserved ∧ (after (step acknowledging)).isSome = true := by
  decide +kernel

theorem witness_StepsKeepPortsCoherent :
    acknowledging.portsCoherent ∧ (after (step acknowledging)).isSome = true := by decide +kernel

theorem witness_StepsKeepAManageHolder : (∃ t, acknowledging.holdsManage t = true) ∧ acknowledging.sweep = none := by
  decide +kernel

/-- Every family of `world` has its live count, and every other number is FREE without a copy. -/
theorem witness_StepsKeepLiveCounts :
    acknowledging.storesCanonical ∧ acknowledging.liveCounted ∧ (after (step acknowledging)).isSome = true := by
  refine ⟨by decide +kernel, ?_, by decide +kernel⟩
  intro f
  rcases f with _ | _ | _ | _ | _ | f
  · rfl
  · exact (by decide +kernel : 1 ≤ familyOne.live ∧ familyOne.live = acknowledging.copies 1)
  · exact (by decide +kernel : 1 ≤ familyTwo.live ∧ familyTwo.live = acknowledging.copies 2)
  · exact (by decide +kernel : 1 ≤ familyThree.live ∧ familyThree.live = acknowledging.copies 3)
  · exact (by decide +kernel : 1 ≤ familyFour.live ∧ familyFour.live = acknowledging.copies 4)
  · rfl

/-- Reset with a report listed in RQ 0 of station 0, and a selection waiting. -/
def reporting : State :=
  { State.reset with
    queues := Bank.set State.reset.queues 0 [(0, reportQueue)]
    schedulers := Bank.set State.reset.schedulers 0 ⟨⟨[0], [], [], []⟩, ⟨0, 0, 0⟩, .b1, false⟩
    reports := [(0, ⟨0, .portFenced 4 .retries, 0, false, none⟩)]
    pending := [.selection 0] }

theorem reporting_queue (t : StationId) (q : Nat) :
    reporting.queue t q = if t = 0 ∧ q = 0 then some reportQueue else none := by
  have h : ∀ t : StationId, Bank.get reporting.queues t = if t = 0 then [(0, reportQueue)] else [] := by decide +kernel
  simp only [State.queue, h]
  by_cases ht : t = 0
  · simp [ht, Table.find]
    cases q <;> simp
  · rw [if_neg ht, if_neg (fun h => ht h.1)]
    rfl

theorem witness_StepsKeepActiveLists : reporting.schedulersCoherent ∧ (after (step reporting)).isSome = true := by
  refine ⟨⟨by decide +kernel, ?_, ?_, ?_⟩, by decide +kernel⟩
  · intro t
    have ha : ∀ (t : StationId), reporting.scheduler t = ⟨⟨if t = 0 then [0] else [], [], [], []⟩, ⟨0, 0, 0⟩, .b1, false⟩ := by
      decide +kernel
    refine ⟨?_, ?_, ?_⟩
    · intro b
      rw [ha]
      cases b <;> by_cases ht : t = 0 <;> simp [ActiveLists.get, ht]
    · intro b q
      have hs : reporting.shouldBeActive t b q ↔ t = 0 ∧ q = 0 ∧ b = .b0 := by
        simp only [State.shouldBeActive, reporting_queue]
        constructor
        · rintro ⟨x, hx, _, _, hb⟩
          split at hx
          · next h => exact ⟨h.1, h.2, by rw [← hb, ← Option.some.inj hx]; rfl⟩
          · exact absurd hx (by simp)
        · rintro ⟨ht, hq, hb⟩
          exact ⟨reportQueue, by simp [ht, hq], by decide, by decide, by rw [hb]; rfl⟩
      rw [hs, ha]
      cases b <;> by_cases ht : t = 0 <;> simp [ActiveLists.get, ht]
    · intro d _
      rw [ha]
      cases d <;> simp [DrrCounts.get]
  · intro t
    refine ⟨?_, ?_⟩
    · intro h
      have : t = 0 := by revert h; revert t; decide +kernel
      exact ⟨reportQueue, by rw [reporting_queue]; simp [this], rfl, rfl⟩
    · intro h q x hx
      rw [reporting_queue] at hx
      split at hx
      · next hh => rw [hh.1] at h; exact absurd h (by decide +kernel)
      · exact absurd hx (by simp)
  · intro x hx
    exact absurd hx (by simp [reporting, State.reset])

theorem witness_FramesAreReadBack :
    (Arrival.linkOpen 1).wf = true ∧ (Arrival.linkOpen 15).wf = true ∧ Arrival.linkClose.wf = true ∧
    Arrival.linkPing.wf = true ∧ (Arrival.ack ⟨0, some 255, 15⟩).wf = true ∧ (Arrival.ack ⟨15, none, 0⟩).wf = true ∧
    (Arrival.ingress ⟨.message, 15, 255, List.replicate 505 0⟩).wf = true ∧
    (Arrival.ingress ⟨.control, 0, 0, [0x25, 0]⟩).wf = true := by
  decide +kernel

end Sys2Proof.Tests
end

section
/-! PROOFS. Power-on and RESET_N: what RESET_N does, what each record of the grant store reads as after it (R31, R202),
and the statement O5. -/

namespace Sys2Proof.Machine

/-! ### RESET_N -/

theorem exec_resetN (s : State) : exec .resetN s = .next s.powerOn := rfl

/-- Power-on is RESET_N with no command waiting. -/
theorem State.powerOn_reset : State.reset.powerOn = State.reset := rfl

/-- The two ways in which the statements about reset reach a state have one form: a `powerOn` of some state. -/
theorem eq_powerOn_of_reset {s t : State} (h : t = State.reset ∨ exec .resetN s = .next t) :
    ∃ s₀ : State, t = s₀.powerOn := by
  rcases h with hOn | hReset
  · exact ⟨State.reset, hOn.trans State.powerOn_reset.symm⟩
  · rw [exec_resetN] at hReset
    exact ⟨s, (Host.Outcome.next.inj hReset).symm⟩

/-! ### The grant store after RESET_N (R31) -/

@[simp] theorem State.powerOn_slot (s : State) (u : StationId) (n : Nat) : s.powerOn.slot u n = none :=
  State.reset_slot u n

@[simp] theorem State.powerOn_slotsInUse (s : State) : s.powerOn.slotsInUse = Bank.fill 0 := rfl

@[simp] theorem State.powerOn_storeUse (s : State) : s.powerOn.storeUse = 0 := rfl

@[simp] theorem State.powerOn_family (s : State) (f : Nat) : s.powerOn.family f = none :=
  State.reset_family f

@[simp] theorem State.powerOn_report (s : State) (r : Nat) : s.powerOn.report r = none := rfl

/-- Station 0 has the record of R196. -/
@[simp] theorem State.powerOn_station_zero (s : State) : s.powerOn.station 0 = Station.resetFirst :=
  Bank.get_set_self ..

@[simp] theorem Station.resetFirst_state : Station.resetFirst.state = .enabled := rfl

@[simp] theorem Station.resetFirst_grantLimit : Station.resetFirst.grantLimit = 256 := rfl

end Sys2Proof.Machine

namespace Sys2Proof.Proofs

open Sys2Proof.Machine

/-- Settles O5: both ways of reaching a reset state give `powerOn` of some state, and each record of that is read off
by its own lemma. -/
theorem resetLeavesTheGrantStoreEmpty : Obligations.ResetLeavesTheGrantStoreEmpty := by
  intro s t h
  obtain ⟨s₀, rfl⟩ := eq_powerOn_of_reset h
  refine ⟨s₀.powerOn_slot, fun u => ?slotsInUse, s₀.powerOn_storeUse, s₀.powerOn_family, s₀.powerOn_report,
    ?enabled, ?grantLimit⟩
  case slotsInUse => rw [State.powerOn_slotsInUse, Bank.get_fill]
  case enabled => rw [State.powerOn_station_zero, Station.resetFirst_state]
  case grantLimit => rw [State.powerOn_station_zero, Station.resetFirst_grantLimit]

end Sys2Proof.Proofs
end

section
/-! PROOFS. Receive queues, the Message Pool, the active lists and the outstanding lists after RESET_N (R58), and the
statement O6. -/

namespace Sys2Proof.Machine

theorem Table.find_singleton {α : Type} (k : Nat) (x : α) (j : Nat) :
    Table.find [(k, x)] j = if k = j then some x else none := rfl

/-! ### The receive queues after RESET_N -/

/-- The queues of station 0 are the one record of RQ 0; the other stations list none. -/
theorem State.powerOn_queues (s : State) (u : StationId) :
    Bank.get s.powerOn.queues u = if u = 0 then [(0, Queue.freshReportQueue)] else [] := by
  have hBank : s.powerOn.queues = Bank.set (Bank.fill []) 0 [(0, Queue.freshReportQueue)] := rfl
  rw [hBank, Bank.get_set, Bank.get_fill]

theorem State.powerOn_queue_zero (s : State) : s.powerOn.queue 0 0 = some Queue.freshReportQueue := by
  rw [State.queue, State.powerOn_queues, if_pos rfl, Table.find_singleton, if_pos rfl]

theorem State.powerOn_queue_unused (s : State) {u : StationId} {q : Nat} (h : (u, q) ≠ ((0 : StationId), 0)) :
    s.powerOn.queue u q = none := by
  rw [State.queue, State.powerOn_queues]
  by_cases hu : u = 0
  · have hq : 0 ≠ q := fun hq => h (by rw [hu, ← hq])
    rw [if_pos hu, Table.find_singleton, if_neg hq]
  · rw [if_neg hu, Table.find_nil]

@[simp] theorem State.powerOn_rqsInUse (s : State) : s.powerOn.rqsInUse = Bank.fill 0 := rfl

@[simp] theorem State.powerOn_heldCells (s : State) : s.powerOn.heldCells = Bank.fill 0 := rfl

@[simp] theorem Station.resetFirst_queueLimit : Station.resetFirst.queueLimit = 16 := rfl

@[simp] theorem Station.resetFirst_cellQuota : Station.resetFirst.cellQuota = 1024 := rfl

/-! ### The Message Pool after RESET_N -/

@[simp] theorem State.powerOn_freeDescriptors (s : State) : s.powerOn.freeDescriptors = 1024 := rfl

@[simp] theorem State.powerOn_freeCells (s : State) : s.powerOn.freeCells = 3072 := rfl

@[simp] theorem State.powerOn_freeReports (s : State) : s.powerOn.freeReports = 64 := rfl

/-! ### Active and outstanding lists after RESET_N -/

@[simp] theorem State.powerOn_scheduler (s : State) (u : StationId) : s.powerOn.scheduler u = Scheduler.reset :=
  State.reset_scheduler u

@[simp] theorem State.powerOn_port (s : State) (p : PortId) : s.powerOn.port p = PortLink.reset :=
  State.reset_port p

@[simp] theorem Scheduler.reset_active_get (b : Band) : Scheduler.reset.active.get b = [] := by
  cases b <;> rfl

@[simp] theorem PortLink.reset_outstanding : PortLink.reset.window.outstanding = [] := rfl

end Sys2Proof.Machine

namespace Sys2Proof.Proofs

open Sys2Proof.Machine

/-- Settles O6: a reset state is `powerOn` of some state; the one bank entry that is not empty is that of station 0, and
its one record is RQ 0, freshly opened. Every other clause is read off by the lemma of its record. -/
theorem resetLeavesTheQueuesAndThePool : Obligations.ResetLeavesTheQueuesAndThePool := by
  intro s t h
  obtain ⟨s₀, rfl⟩ := eq_powerOn_of_reset h
  refine ⟨fun u q hq => s₀.powerOn_queue_unused hq, ⟨Queue.freshReportQueue, s₀.powerOn_queue_zero, rfl, rfl, rfl, rfl⟩,
    ?enabled, fun u => ?rqsInUse, fun u => ?heldCells, ?queueLimit, ?cellQuota,
    s₀.powerOn_freeDescriptors, s₀.powerOn_freeCells, s₀.powerOn_freeReports, fun u b => ?active, fun p => ?outstanding⟩
  case enabled => rw [State.powerOn_station_zero, Station.resetFirst_state]
  case rqsInUse => rw [State.powerOn_rqsInUse, Bank.get_fill]
  case heldCells => rw [State.powerOn_heldCells, Bank.get_fill]
  case queueLimit => rw [State.powerOn_station_zero, Station.resetFirst_queueLimit]
  case cellQuota => rw [State.powerOn_station_zero, Station.resetFirst_cellQuota]
  case active => rw [State.powerOn_scheduler, Scheduler.reset_active_get]
  case outstanding => rw [State.powerOn_port, PortLink.reset_outstanding]

end Sys2Proof.Proofs
end

section
/-! PROOFS. One induction over the commands: a predicate that the shared operations and the owning rules keep is kept by
every command and by every step. -/

namespace Sys2Proof.Machine

/-- What a predicate on states must survive for the operations that several commands share: changes of the ports, calls
for reports, and the freeing and the return of held entries. -/
structure StoreInvariant (P : State → Prop) : Prop where
  ports : ∀ (s : State) (l : Bank PortLink), P s → P { s with ports := l }
  callReport : ∀ (s : State) (t : StationId) (c : ReportContent), P s → P (s.callReport t c)
  freeEntry : ∀ (s : State) (e : EntryRef) (c : FreeCause) (pl : HeldPlace), P s → P (s.freeEntry e c pl)
  returnEntry : ∀ (s : State) (t : StationId) (q : Nat) (x : Queue) (e : EntryRef) (k : Nat), s.queue t q = some x →
    x.state ≠ .purging → P s → P (s.returnEntry t q x e k)

/-- What it must survive besides: each change that a single command makes, under the conditions that the command has
checked before it. -/
structure CommandInvariant (P : State → Prop) : Prop extends StoreInvariant P where
  powerOn : ∀ s : State, P s → P s.powerOn
  commitMessage : ∀ (s : State) (t : StationId) (m : MessageRequest) (c : AdmissionContext),
    s.admissionChecks t m = .ok c → P s → P (s.commitMessage t m c)
  select : ∀ (s : State) (p : PortId), P s → P (s.select p)
  slotStep : ∀ s : State, P s → P s.slotStep
  queueStep : ∀ s : State, P s → P s.queueStep
  issueGrant : ∀ (s : State) (t : StationId) (a : IssueGrantParams), P s → P (s.issueGrant t a).state
  dropGrant : ∀ (s : State) (t : StationId) (n : Nat), P s → P (s.dropGrant t n).state
  installInto : ∀ (s : State) (t : StationId) (a : InstallGrantParams), P s → P (s.installInto t a).state
  openQueue : ∀ (s : State) (t : StationId) (a : Nat × Nat × Nat), s.isEnabled t = true → P s →
    P (s.openQueue t a).state
  changeSeal : ∀ (s : State) (t : StationId) (q : Nat) (a b : QueueState), a ≠ .purging → b ≠ .purging → P s →
    P (s.changeSeal t q a b).state
  setDepth : ∀ (s : State) (t : StationId) (a : Nat × Nat), P s → P (s.setDepth t a).state
  setBand : ∀ (s : State) (t : StationId) (a : Nat × Nat), P s → P (s.setBand t a).state
  setQuanta : ∀ (s : State) (t : StationId) (a : Nat × Nat × Nat), P s → P (s.setQuanta t a).state
  revokeFamily : ∀ (s : State) (t : StationId) (f : Nat), P s → P (s.revokeFamily t f).state
  purgeQueue : ∀ (s : State) (r t : StationId) (q : Nat), P s → P (s.purgeQueue r t q).state
  evictStation : ∀ (s : State) (r t : StationId), s.holdsManage r = true → t ≠ r → P s → P (s.evictStation r t).state
  enableStation : ∀ (s : State) (t : StationId) (a : EnableParams), P s → P (s.enableStation t a).state
  setLimits : ∀ (s : State) (t : StationId) (a : LimitsParams), P s → P (s.setLimits t a).state
  setManage : ∀ (s : State) (t : StationId) (b : Bool), P s → P (s.setManage t b).state
  clearTables : ∀ (s : State) (t : StationId), P s → P (s.clearTables t)

namespace StoreInvariant

variable {P : State → Prop} (h : StoreInvariant P)
include h

/-! ### Sessions, fencing, protocol errors -/

theorem setPort {s : State} (p : PortId) (x : PortLink) (hs : P s) : P (s.setPort p x) := h.ports s _ hs

theorem setWindow {s : State} (p : PortId) (w : Window) (hs : P s) : P (s.setWindow p w) := h.ports s _ hs

theorem handBackOne {s : State} (done : List EntryRef) (e : EntryRef) (hs : P s) : P (s.handBackOne done e) := by
  unfold State.handBackOne
  cases s.entryQueue e with
  | none => exact hs
  | some tq =>
    obtain ⟨t, q⟩ := tq
    dsimp only
    cases hq : s.queue t q with
    | none => exact hs
    | some x =>
      dsimp only
      split
      · exact h.freeEntry s e _ _ hs
      · rename_i hx
        exact h.returnEntry s t q x e _ hq hx hs

theorem handBack {s : State} (done l : List EntryRef) (hs : P s) : P (s.handBack done l) := by
  induction l generalizing s done with
  | nil => exact hs
  | cons e r ih => exact ih (done ++ [e]) (h.handBackOne done e hs)

theorem endSession {s : State} (p : PortId) (hs : P s) : P (s.endSession p) :=
  h.setPort p _ (h.handBack [] _ hs)

theorem callReports {s : State} (c : ReportContent) (l : List StationId) (hs : P s) : P (s.callReports c l) := by
  induction l generalizing s with
  | nil => exact hs
  | cons t r ih => exact ih (h.callReport s t c hs)

theorem fence {s : State} (p : PortId) (c : FenceCause) (hs : P s) : P (s.fence p c) :=
  h.callReports _ _ (h.setPort p _ (h.endSession p hs))

theorem protocolError {s : State} (p : PortId) (hs : P s) : P (s.protocolError p) := by
  unfold State.protocolError
  dsimp only
  split
  · split
    · exact h.fence p _ (h.setPort p _ hs)
    · exact h.setPort p _ hs
  · exact hs

/-! ### Windows -/

theorem completeAll {s : State} (l : List EntryRef) (hs : P s) : P (s.completeAll l) := by
  induction l generalizing s with
  | nil => exact hs
  | cons e r ih => exact ih (h.freeEntry s e _ _ hs)

theorem takeAck {s : State} (p : PortId) (a : AckFrame) (hs : P s) : P (s.takeAck p a) := by
  unfold State.takeAck
  dsimp only
  split
  · exact h.setWindow p _ hs
  · split
    · exact h.protocolError p hs
    · exact h.setWindow p _ (h.completeAll _ hs)

theorem arriveAck {s : State} (p : PortId) (a : AckFrame) (hs : P s) : P (s.arriveAck p a) := by
  unfold State.arriveAck
  dsimp only
  repeat' split
  all_goals first | exact hs | exact h.takeAck p a hs

theorem expire {s : State} (p : PortId) (hs : P s) : P (s.expire p) := by
  unfold State.expire
  dsimp only
  split
  · split
    · exact h.fence p _ hs
    · exact h.setWindow p _ hs
  · exact hs

theorem expireAll {s : State} (l : List PortId) (hs : P s) : P (s.expireAll l) := by
  induction l generalizing s with
  | nil => exact hs
  | cons p r ih => exact ih (h.expire p hs)

theorem passUnit {s : State} (hs : P s) : P s.passUnit := h.expireAll _ (h.ports s _ hs)

/-! ### Arrivals -/

theorem detectSignal {s : State} (p : PortId) (hs : P s) : P (s.detectSignal p) := by
  unfold State.detectSignal
  dsimp only
  split
  · exact h.setPort p _ hs
  all_goals exact hs

theorem loseSignal {s : State} (p : PortId) (hs : P s) : P (s.loseSignal p) := by
  unfold State.loseSignal
  split
  · exact hs
  · exact h.setPort p _ (h.endSession p hs)
  · exact h.setPort p _ hs
  · exact h.setPort p _ hs

theorem arriveCrcError {s : State} (p : PortId) (hs : P s) : P (s.arriveCrcError p) := by
  unfold State.arriveCrcError
  dsimp only
  split
  all_goals first | exact hs | exact h.setPort p _ hs

theorem arriveUnreadable {s : State} (p : PortId) (hs : P s) : P (s.arriveUnreadable p) := by
  unfold State.arriveUnreadable
  split
  all_goals first | exact hs | exact h.protocolError p hs

theorem arriveLinkOpen {s : State} (p : PortId) (n : Nat) (hs : P s) : P (s.arriveLinkOpen p n) := by
  unfold State.arriveLinkOpen
  split
  · exact hs
  · exact hs
  · exact h.setPort p _ hs
  · exact h.setPort p _ (h.endSession p hs)

theorem arriveLinkClose {s : State} (p : PortId) (hs : P s) : P (s.arriveLinkClose p) := by
  unfold State.arriveLinkClose
  split
  · exact hs
  · exact hs
  · exact h.setPort p _ hs
  · exact h.setPort p _ (h.endSession p hs)

theorem arriveLinkPing {s : State} (p : PortId) (hs : P s) : P (s.arriveLinkPing p) := by
  unfold State.arriveLinkPing
  dsimp only
  split
  all_goals first | exact hs | exact h.setPort p _ hs

theorem checkSequence {s : State} (p : PortId) (x : Session) (f : IngressFrame) (hs : P s) :
    P (s.checkSequence p x f) := by
  unfold State.checkSequence
  dsimp only
  repeat' split
  all_goals first | exact hs | exact h.setPort p _ hs | exact h.protocolError p hs

theorem arriveIngress {s : State} (p : PortId) (f : IngressFrame) (hs : P s) : P (s.arriveIngress p f) := by
  unfold State.arriveIngress
  dsimp only
  repeat' split
  all_goals first | exact hs | exact h.checkSequence p _ f hs

/-! ### Takings -/

theorem takeHeadFrame {s s' : State} {p : PortId} {kind : FrameKind} {f : IngressFrame}
    (ht : s.takeHeadFrame p kind = some (f, s')) (hs : P s) : P s' := by
  obtain ⟨rest, -, -, -, rfl⟩ := (State.takeHeadFrame_eq_some s p kind f s').1 ht
  exact h.setPort p _ hs

theorem produceAnswer {s : State} (p : PortId) (a : Answer) (hs : P s) : P (s.produceAnswer p a) := h.setPort p _ hs

theorem answerMalformed {s : State} (p : PortId) (f : IngressFrame) (hs : P s) : P (s.answerMalformed p f) :=
  h.protocolError p (h.produceAnswer p _ hs)

theorem takeUnknown {s : State} (p : PortId) (hs : P s) : P (s.takeUnknown p) := by
  unfold State.takeUnknown
  split
  · exact hs
  · rename_i f s' ht
    have hs' := h.takeHeadFrame ht hs
    repeat' split
    all_goals first | exact hs | exact h.produceAnswer p _ hs' | exact h.answerMalformed p f hs'

end StoreInvariant

/-- The Control Path refuses before the owning rule, or hands over to it with checks 3 to 5 passed (R181). -/
theorem Request.decide_cases {α : Type} (r : Request α) (s : State) (t : StationId) (a : α) :
    (∃ status : Status, status.isSuccess = false ∧ status ≠ .malformed ∧ r.decide s t a = Reply.refuse s status) ∨
    ((r.anyStation = true ∨ s.isEnabled t = true) ∧ r.permitted s t a = true ∧ r.inRange a = true ∧
      r.decide s t a = r.work s t a) := by
  unfold Request.decide
  split
  · exact Or.inl ⟨.notEnabled, rfl, by simp, rfl⟩
  · rename_i h3
    split
    · exact Or.inl ⟨.notPermitted, rfl, by simp, rfl⟩
    · rename_i h4
      split
      · exact Or.inl ⟨.badValue, rfl, by simp, rfl⟩
      · rename_i h5
        refine Or.inr ⟨?_, by simpa using h4, by simpa using h5, rfl⟩
        cases h : r.anyStation
        · exact Or.inr (by simpa [h] using h3)
        · exact Or.inl rfl

/-- A request that names a station keeps what its owning rule keeps for each of the eight. -/
theorem withStation_keeps {P : State → Prop} {s : State} (n : Nat) (work : StationId → Reply)
    (hwork : ∀ t : StationId, n = t.val → P (work t).state) (hs : P s) : P (withStation s n work).state := by
  unfold withStation asStation
  by_cases hn : n < 8
  · simp only [dif_pos hn]
    exact hwork ⟨n, hn⟩ rfl
  · simp only [dif_neg hn]
    exact hs

namespace CommandInvariant

variable {P : State → Prop} (h : CommandInvariant P)
include h

theorem answerMessage {s : State} (p : PortId) (f : IngressFrame) (hs : P s) : P (s.answerMessage p f) := by
  unfold State.answerMessage
  split
  · exact h.protocolError p (h.produceAnswer p _ hs)
  · rename_i m _
    split
    · exact h.produceAnswer p _ hs
    · rename_i c hc
      exact h.produceAnswer p _ (h.commitMessage s p m c hc hs)

/-- The taking of a request keeps what its owning rule keeps. -/
theorem take {α : Type} (r : Request α) {s : State} (p : PortId)
    (hwork : ∀ (s : State) (a : α), (r.anyStation = true ∨ s.isEnabled p = true) → r.permitted s p a = true →
      r.inRange a = true → P s → P (r.work s p a).state)
    (hfinish : ∀ s : State, P s → P (r.finish s p)) (hs : P s) : P (r.take p s) := by
  have hdecide : ∀ (s : State) (a : α), P s → P (r.decide s p a).state := by
    intro s a hs
    rcases r.decide_cases s p a with ⟨status, -, -, hd⟩ | ⟨h3, h4, h5, hd⟩
    · rw [hd]; exact hs
    · rw [hd]; exact hwork s a h3 h4 h5 hs
  unfold Request.take
  split
  · exact hs
  · rename_i f s' ht
    have hs' := h.takeHeadFrame ht hs
    split
    · split
      · unfold Request.answer
        split
        · exact h.answerMalformed p f hs'
        · rename_i a _
          have hr := h.produceAnswer p (.response f.session f.seq (r.decide s' p a).status (r.decide s' p a).result)
            (hdecide s' a hs')
          dsimp only
          split
          · exact hfinish _ hr
          · exact hr
      · exact hs
    · exact hs

/-! ### Every command -/

/-- Every command answers a next state that keeps the predicate. -/
theorem exec (c : Instr) {s : State} (hs : P s) : ∃ t, exec c s = .next t ∧ P t := by
  have hid : ∀ s : State, P s → P s := fun _ k => k
  cases c with
  | resetN => exact ⟨_, rfl, h.powerOn s hs⟩
  | signalDetect p => exact ⟨_, rfl, h.detectSignal p hs⟩
  | signalLoss p => exact ⟨_, rfl, h.loseSignal p hs⟩
  | crcErrorFrame p content =>
    show ∃ t, execCrcErrorFrame p content s = .next t ∧ P t
    unfold execCrcErrorFrame
    split
    · exact ⟨_, rfl, h.arriveCrcError p hs⟩
    · exact ⟨_, rfl, hs⟩
  | unreadableFrame p content =>
    show ∃ t, execUnreadableFrame p content s = .next t ∧ P t
    unfold execUnreadableFrame
    split
    · exact ⟨_, rfl, h.arriveUnreadable p hs⟩
    · exact ⟨_, rfl, h.arriveUnreadable p hs⟩
    · exact ⟨_, rfl, hs⟩
  | linkOpen p content =>
    show ∃ t, execLinkOpen p content s = .next t ∧ P t
    unfold execLinkOpen
    split
    · exact ⟨_, rfl, h.arriveLinkOpen p _ hs⟩
    · exact ⟨_, rfl, h.arriveUnreadable p hs⟩
    · exact ⟨_, rfl, hs⟩
  | linkClose p content =>
    show ∃ t, execLinkClose p content s = .next t ∧ P t
    unfold execLinkClose
    split
    · exact ⟨_, rfl, h.arriveLinkClose p hs⟩
    · exact ⟨_, rfl, hs⟩
  | linkPing p content =>
    show ∃ t, execLinkPing p content s = .next t ∧ P t
    unfold execLinkPing
    split
    · exact ⟨_, rfl, h.arriveLinkPing p hs⟩
    · exact ⟨_, rfl, hs⟩
  | ingressArrival p content =>
    show ∃ t, execIngressArrival p content s = .next t ∧ P t
    unfold execIngressArrival
    split
    · exact ⟨_, rfl, h.arriveIngress p _ hs⟩
    · exact ⟨_, rfl, hs⟩
  | ack p content =>
    show ∃ t, execAck p content s = .next t ∧ P t
    unfold execAck
    split
    · exact ⟨_, rfl, h.arriveAck p _ hs⟩
    · exact ⟨_, rfl, hs⟩
  | admission p =>
    show ∃ t, execAdmission p s = .next t ∧ P t
    unfold execAdmission
    split
    · exact ⟨_, rfl, hs⟩
    · rename_i f s' ht
      exact ⟨_, rfl, h.answerMessage p f (h.takeHeadFrame ht hs)⟩
  | issueGrant p => exact ⟨_, rfl, h.take _ p (fun s a _ _ _ k => h.issueGrant s p a k) hid hs⟩
  | dropGrant p => exact ⟨_, rfl, h.take _ p (fun s a _ _ _ k => h.dropGrant s p a k) hid hs⟩
  | installGrant p =>
    exact ⟨_, rfl, h.take _ p (fun s a _ _ _ k => withStation_keeps _ _ (fun t _ => h.installInto s t a k) k) hid hs⟩
  | readGrant p => exact ⟨_, rfl, h.take _ p (fun s a _ _ _ k => withStation_keeps _ _ (fun t _ => k) k) hid hs⟩
  | readFamily p =>
    refine ⟨_, rfl, h.take _ p (fun s a _ _ _ k => ?_) hid hs⟩
    show P (s.readFamily p a).state
    unfold State.readFamily
    split <;> exact k
  | openQueue p =>
    exact ⟨_, rfl, h.take _ p (fun s a h3 _ _ k => h.openQueue s p a (h3.resolve_left Bool.false_ne_true) k) hid hs⟩
  | sealQueue p =>
    exact ⟨_, rfl, h.take _ p (fun s a _ _ _ k => h.changeSeal s p a _ _ (by decide) (by decide) k) hid hs⟩
  | unsealQueue p =>
    exact ⟨_, rfl, h.take _ p (fun s a _ _ _ k => h.changeSeal s p a _ _ (by decide) (by decide) k) hid hs⟩
  | setDepth p => exact ⟨_, rfl, h.take _ p (fun s a _ _ _ k => h.setDepth s p a k) hid hs⟩
  | readQueue p => exact ⟨_, rfl, h.take _ p (fun s a _ _ _ k => withStation_keeps _ _ (fun t _ => k) k) hid hs⟩
  | readPool p => exact ⟨_, rfl, h.take _ p (fun s a _ _ _ k => k) hid hs⟩
  | setBand p => exact ⟨_, rfl, h.take _ p (fun s a _ _ _ k => h.setBand s p a k) hid hs⟩
  | setQuanta p => exact ⟨_, rfl, h.take _ p (fun s a _ _ _ k => h.setQuanta s p a k) hid hs⟩
  | setDeliveryTiming p =>
    exact ⟨_, rfl, h.take _ p (fun s a _ _ _ k => withStation_keeps _ _ (fun t _ => h.setWindow t _ k) k) hid hs⟩
  | revokeFamily p => exact ⟨_, rfl, h.take _ p (fun s a _ _ _ k => h.revokeFamily s p a k) hid hs⟩
  | purgeQueue p =>
    exact ⟨_, rfl, h.take _ p (fun s a _ _ _ k => withStation_keeps _ _ (fun t _ => h.purgeQueue s p t _ k) k) hid hs⟩
  | evictStation p =>
    refine ⟨_, rfl, h.take _ p (fun s a _ h4 _ k => withStation_keeps _ _ (fun t ht => ?_) k) hid hs⟩
    obtain ⟨hm, hne⟩ : s.holdsManage p = true ∧ a ≠ p.val := by
      simpa [evictStationRequest] using h4
    exact h.evictStation s p t hm (fun e => hne (ht.trans (congrArg Fin.val e))) k
  | readSweep p => exact ⟨_, rfl, h.take _ p (fun s a _ _ _ k => k) hid hs⟩
  | releasePort p =>
    refine ⟨_, rfl, h.take _ p (fun s a _ _ _ k => withStation_keeps _ _ (fun t _ => ?_) k) hid hs⟩
    unfold State.releasePort
    dsimp only
    split
    · exact h.setPort t _ k
    · exact k
  | readPort p => exact ⟨_, rfl, h.take _ p (fun s a _ _ _ k => withStation_keeps _ _ (fun t _ => k) k) hid hs⟩
  | setPortLimit p =>
    exact ⟨_, rfl, h.take _ p (fun s a _ _ _ k => withStation_keeps _ _ (fun t _ => h.setPort t _ k) k) hid hs⟩
  | enableStation p =>
    exact ⟨_, rfl, h.take _ p
      (fun s a _ _ _ k => withStation_keeps _ _ (fun t _ => h.enableStation s t a k) k) hid hs⟩
  | setLimits p =>
    exact ⟨_, rfl, h.take _ p (fun s a _ _ _ k => withStation_keeps _ _ (fun t _ => h.setLimits s t a k) k) hid hs⟩
  | setManage p =>
    exact ⟨_, rfl, h.take _ p (fun s a _ _ _ k => withStation_keeps _ _ (fun t _ => h.setManage s t _ k) k) hid hs⟩
  | readStation p => exact ⟨_, rfl, h.take _ p (fun s a _ _ _ k => withStation_keeps _ _ (fun t _ => k) k) hid hs⟩
  | readDevice p => exact ⟨_, rfl, h.take _ p (fun s a _ _ _ k => k) hid hs⟩
  | clearTables p => exact ⟨_, rfl, h.take _ p (fun s a _ _ _ k => k) (fun s k => h.clearTables s p k) hs⟩
  | unknownRequest p => exact ⟨_, rfl, h.takeUnknown p hs⟩
  | selection p => exact ⟨_, rfl, h.select s p hs⟩
  | expiry p => exact ⟨_, rfl, h.expire p hs⟩
  | egressArbitration p => exact ⟨_, rfl, h.setPort p _ hs⟩
  | slotPassStep => exact ⟨_, rfl, h.slotStep s hs⟩
  | queuePassStep => exact ⟨_, rfl, h.queueStep s hs⟩

/-- Every step keeps the predicate, where it does not look at the waiting commands. -/
theorem step (hpending : ∀ (s : State) (l : List Instr), P s → P { s with pending := l }) {s t : State} (hs : P s)
    (ht : step s = .next t) : P t := by
  unfold Machine.step at ht
  split at ht
  · cases ht
    exact h.passUnit hs
  · rename_i c rest _
    obtain ⟨t', ht', hp⟩ := h.exec c (hpending s rest hs)
    rw [ht'] at ht
    cases ht
    exact hp

end CommandInvariant

end Sys2Proof.Machine
end

section
/-! PROOFS. What the operations leave of the station records, the cases of a selection and of a sweep step, and the
induction over the commands for a predicate that does not look at the queues: it has to survive the changes of the records
alone. -/

namespace Sys2Proof.Machine

/-! ### Operations that do not look at the grants -/

/-- What a predicate that does not look at the grant store must survive for the changes of live counts: they call for
reports. -/
structure GrantFree (P : State → Prop) : Prop where
  grants : ∀ (s : State) (tb : Bank (Table Slot)) (sl : Bank Nat) (su : Nat) (fa : Table Family), P s →
    P { s with tables := tb, slotsInUse := sl, storeUse := su, families := fa }
  callReport : ∀ (s : State) (t : StationId) (c : ReportContent), P s → P (s.callReport t c)

/-- What a predicate that does not look at the descriptors and the ports either must survive for the operations that
several commands share. -/
structure GrantBlind (P : State → Prop) : Prop extends GrantFree P where
  records : ∀ (s : State) (ds : Table Descriptor) (fd fc : Nat) (rs : Table ReportRecord) (fr : Nat), P s →
    P { s with descriptors := ds, freeDescriptors := fd, freeCells := fc, reports := rs, freeReports := fr }
  ports : ∀ (s : State) (l : Bank PortLink), P s → P { s with ports := l }
  releaseHeld : ∀ (s : State) (t : StationId) (q c : Nat) (pl : HeldPlace), P s → P (s.releaseHeld t q c pl)
  returnEntry : ∀ (s : State) (t : StationId) (q : Nat) (x : Queue) (e : EntryRef) (k : Nat), s.queue t q = some x →
    x.state ≠ .purging → P s → P (s.returnEntry t q x e k)

namespace GrantFree

variable {P : State → Prop} (h : GrantFree P)
include h

theorem closeFamily {s : State} (f : Nat) (x : Family) (hs : P s) : P (s.closeFamily f x) := by
  have he : P { s with families := Table.erase s.families f } := h.grants s _ _ _ _ hs
  unfold State.closeFamily
  dsimp only
  split
  · exact h.callReport _ _ _ he
  · exact he

theorem lowerLive {s : State} (f : Nat) (hs : P s) : P (s.lowerLive f) := by
  rcases s.lowerLive_cases f with ⟨-, e⟩ | ⟨x, -, -, e⟩ | ⟨x, -, -, e⟩ <;> rw [e]
  · exact hs
  · exact h.closeFamily f x hs
  · exact h.grants s _ _ _ _ hs

theorem freeSlot {s : State} (t : StationId) (n : Nat) (x : Slot) (hs : P s) : P (s.freeSlot t n x) :=
  h.lowerLive _ (h.grants s _ _ _ _ hs)

theorem releaseGrant {s : State} (c : FreeCause) (d : Nat) (t : StationId) (g : CarriedGrant) (hs : P s) :
    P (s.releaseGrant c d t g) := by
  unfold State.releaseGrant
  cases g.state with
  | inTransit => exact h.lowerLive _ hs
  | void r => exact hs
  | reserved n =>
    cases c with
    | acknowledged =>
      dsimp only
      rcases s.definitionClaim_cases t n d with ⟨-, e⟩ | ⟨x, -, -, e⟩ | ⟨x, -, -, e⟩ <;> rw [e]
      · exact hs
      · exact h.grants s _ _ _ _ hs
      · exact h.freeSlot t n x hs
    | withdrawn =>
      dsimp only
      unfold State.freeReserved
      split
      · exact hs
      · exact h.freeSlot t _ _ hs

theorem reserve {s : State} (t : StationId) (d : Nat) (g : CarriedGrant) (hs : P s) : P (s.reserve t d g).1 := by
  rcases s.reserve_cases t d g with ⟨r, e⟩ | ⟨-, -, -, e⟩ <;> rw [e]
  · exact hs
  · exact h.grants s _ _ _ _ hs

theorem raiseLive {s : State} (f : Nat) (hs : P s) : P (s.raiseLive f) := by
  unfold State.raiseLive
  split
  · exact hs
  · exact h.grants s _ _ _ _ hs

theorem spend {s : State} (t : StationId) (n b : Nat) (hs : P s) : P (s.spend t n b) := by
  unfold State.spend
  split
  · exact hs
  · exact h.grants s _ _ _ _ hs

theorem attachGrant {s : State} (t : StationId) (a : Option Attach) (hs : P s) : P (s.attachGrant t a).1 := by
  unfold State.attachGrant
  repeat' split
  all_goals first
    | exact hs
    | exact h.raiseLive _ (h.spend t _ _ hs)
    | exact h.grants s _ _ _ _ hs

theorem issueGrant {s : State} (t : StationId) (a : IssueGrantParams) (hs : P s) : P (s.issueGrant t a).state := by
  unfold State.issueGrant
  split
  · exact hs
  · exact h.grants s _ _ _ _ hs

theorem installInto {s : State} (t : StationId) (a : InstallGrantParams) (hs : P s) :
    P (s.installInto t a).state := by
  unfold State.installInto
  repeat' split
  all_goals first | exact hs | exact h.raiseLive _ (h.grants s _ _ _ _ hs)

end GrantFree

namespace GrantBlind

variable {P : State → Prop} (h : GrantBlind P)
include h

theorem setDescriptor {s : State} (d : Nat) (x : Descriptor) (hs : P s) : P (s.setDescriptor d x) :=
  h.records s _ _ _ _ _ hs

theorem setReport {s : State} (r : Nat) (x : ReportRecord) (hs : P s) : P (s.setReport r x) := h.records s _ _ _ _ _ hs

theorem resolveGrant {s : State} (t : StationId) (e : EntryRef) (hs : P s) : P (s.resolveGrant t e) := by
  unfold State.resolveGrant
  dsimp only
  repeat' split
  all_goals first
    | exact hs
    | exact h.lowerLive _ (h.setDescriptor _ _ (h.reserve t _ _ hs))
    | exact h.setDescriptor _ _ (h.reserve t _ _ hs)

theorem freeEntry {s : State} (e : EntryRef) (c : FreeCause) (pl : HeldPlace) (hs : P s) : P (s.freeEntry e c pl) := by
  cases e with
  | message d =>
    unfold State.freeEntry
    dsimp only
    split
    · exact hs
    · rename_i x _
      unfold State.freeDescriptor
      refine h.releaseHeld _ _ _ _ _ (h.records _ _ _ _ _ _ ?_)
      split
      · exact hs
      · exact h.releaseGrant c d _ _ hs
  | report r =>
    unfold State.freeEntry
    dsimp only
    split
    · exact hs
    · exact h.releaseHeld _ _ _ _ _ (h.records s _ _ _ _ _ hs)

theorem toStoreInvariant : StoreInvariant P where
  ports := h.ports
  callReport := h.callReport
  freeEntry _ e c pl := h.freeEntry e c pl
  returnEntry := h.returnEntry

theorem giveSeq {s : State} (e : EntryRef) (n : SeqNum) (hs : P s) : P (s.giveSeq e n) := by
  unfold State.giveSeq
  repeat' split
  all_goals first | exact hs | exact h.setDescriptor _ _ hs | exact h.setReport _ _ hs

theorem markRepeated {s : State} (e : EntryRef) (hs : P s) : P (s.markRepeated e) := by
  unfold State.markRepeated
  repeat' split
  all_goals first | exact hs | exact h.setDescriptor _ _ hs | exact h.setReport _ _ hs

theorem transmit {s : State} (p : PortId) (e : EntryRef) (hs : P s) : P (s.transmit p e) :=
  h.ports _ _ (h.markRepeated e (h.resolveGrant p e (h.giveSeq e _ hs)))

end GrantBlind

/-! ### The station records -/

/-- A station record but for its lost-report count, which is all of it that the shared operations change. -/
def Station.standing (x : Station) : Station := { x with lostReports := 0 }

theorem Station.standing_lostReports (x : Station) (n : Nat) :
    ({ x with lostReports := n } : Station).standing = x.standing := rfl

theorem State.standing_setStation (s : State) (t u : StationId) (x : Station)
    (hx : x.standing = (s.station t).standing) : ((s.setStation t x).station u).standing = (s.station u).standing := by
  rw [State.station_setStation]
  split
  · rename_i e; rw [e, hx]
  · rfl

theorem State.standing_callReport (s : State) (t u : StationId) (c : ReportContent) :
    ((s.callReport t c).station u).standing = (s.station u).standing := by
  rcases s.callReport_cases t c with ⟨-, h⟩ | ⟨q, -, -, -, h⟩ | ⟨-, -, h⟩ <;> rw [h]
  · have hst : (s.placeReport t q c).station u = (s.setStation t { s.station t with lostReports := 0 }).station u := by
      unfold State.placeReport
      dsimp only
      split <;> rfl
    rw [hst]
    exact s.standing_setStation t u _ rfl
  · exact s.standing_setStation t u _ rfl

theorem State.settleQueue_station (s : State) (t : StationId) (q : Nat) (u : StationId) :
    (s.settleQueue t q).station u = s.station u := by
  rcases s.settleQueue_cases t q with h | ⟨x, -, -, -, -, h⟩ <;> rw [h]
  unfold State.dropQueue
  dsimp only
  split <;> rfl

theorem State.releaseHeld_station (s : State) (t : StationId) (q c : Nat) (pl : HeldPlace) (u : StationId) :
    (s.releaseHeld t q c pl).station u = s.station u := by
  unfold State.releaseHeld
  split
  · rfl
  · rw [State.settleQueue_station]; rfl

theorem State.clearSeq_stations (s : State) (e : EntryRef) : (s.clearSeq e).stations = s.stations := by
  unfold State.clearSeq
  repeat' split
  all_goals rfl

theorem State.returnEntry_station (s : State) (t : StationId) (q : Nat) (x : Queue) (e : EntryRef) (k : Nat)
    (u : StationId) : (s.returnEntry t q x e k).station u = s.station u := by
  have h := s.clearSeq_stations e
  unfold State.returnEntry
  dsimp only
  split <;> exact congrArg (fun b => Bank.get b u) h

/-- What a station is, but for its lost reports, survives the shared operations. -/
theorem standing_grantBlind (u : StationId) (x : Station) : GrantBlind (fun s => (s.station u).standing = x) where
  grants _ _ _ _ _ h := h
  records _ _ _ _ _ _ h := h
  ports _ _ h := h
  callReport s t c k := (s.standing_callReport t u c).trans k
  releaseHeld s t q c pl h := by rw [State.releaseHeld_station]; exact h
  returnEntry s t q y e k _ _ h := by rw [State.returnEntry_station]; exact h

theorem Station.state_of_standing {x y : Station} (h : x.standing = y.standing) : x.state = y.state :=
  (congrArg Station.state h : x.standing.state = y.standing.state)

theorem Station.manage_of_standing {x y : Station} (h : x.standing = y.standing) : x.manage = y.manage :=
  (congrArg Station.manage h : x.standing.manage = y.standing.manage)

/-! ### The cases of a selection -/

/-- A selection does nothing, or takes the head entry of a queue: of the first queue of band 0, or of the first queue of
the band that deficit round robin serves (R86 to R88). -/
theorem State.select_cases (s : State) (p : PortId) :
    s.select p = s ∨
    ∃ (q : Nat) (turn : List Nat) (x : Queue) (e : ListEntry) (r : List ListEntry) (sch : Scheduler),
      s.selectionReady p = true ∧ s.queue p q = some x ∧ x.list = e :: r ∧
      s.select p =
        (((s.setQueue p q { x with list := r, outstanding := x.outstanding + 1 }).setScheduler p sch).transmit p e.ref) ∧
      (((s.scheduler p).active.b0 = q :: turn ∧ sch = (s.scheduler p).rotate .b0 (!r.isEmpty)) ∨
        ((s.scheduler p).active.b0 = [] ∧ ∃ (b : DrrBand) (arrived : Scheduler),
          Scheduler.seek (s.station p).quanta (fun b => s.headCost p (s.scheduler p) b.band) seekFuel (s.scheduler p) =
            some (b, arrived) ∧
          arrived.active.get b.band = q :: turn ∧
          sch = (arrived.rotate b.band (!r.isEmpty)).pay b (s.entryCost e.ref)
            ((s.setQueue p q { x with list := r, outstanding := x.outstanding + 1 }).headCost p
              (arrived.rotate b.band (!r.isEmpty)) b.band))) := by
  unfold State.select
  cases hr : s.selectionReady p with
  | false => exact Or.inl rfl
  | true =>
    rw [if_pos rfl]
    cases hb : (s.scheduler p).active.b0 with
    | cons q turn =>
      dsimp only
      unfold State.selectStrict State.takeHead
      cases hq : s.queue p q with
      | none => exact Or.inl rfl
      | some x =>
        dsimp only
        cases hl : x.list with
        | nil => exact Or.inl rfl
        | cons e r => exact Or.inr ⟨q, turn, x, e, r, _, rfl, hq, hl, rfl, Or.inl ⟨rfl, rfl⟩⟩
    | nil =>
      dsimp only
      unfold State.selectDrr
      dsimp only
      cases hk : Scheduler.seek (s.station p).quanta (fun b => s.headCost p (s.scheduler p) b.band) seekFuel
          (s.scheduler p) with
      | none => exact Or.inl rfl
      | some ba =>
        obtain ⟨b, arrived⟩ := ba
        dsimp only
        cases ha : arrived.active.get b.band with
        | nil => exact Or.inl rfl
        | cons q turn =>
          dsimp only
          unfold State.takeHead
          cases hq : s.queue p q with
          | none => exact Or.inl rfl
          | some x =>
            dsimp only
            cases hl : x.list with
            | nil => exact Or.inl rfl
            | cons e r => exact Or.inr ⟨q, turn, x, e, r, _, rfl, hq, hl, rfl, Or.inr ⟨rfl, b, arrived, rfl, ha, rfl⟩⟩

/-! ### The cases of a sweep step -/

/-- The cursors a sweep of this subject may have: any slot, and in the queue pass a queue of the subject (R124). -/
def SweepSubject.allows : SweepSubject → Cursor → Prop
  | _, .slotPass _ _ => True
  | .revoke _, .queuePass _ _ => False
  | .purge t q, .queuePass u r => u = t ∧ r = q
  | .evict t, .queuePass u _ => u = t

/-- The cursor moves on, or a REVOKE ends (R127). -/
theorem State.advanceSlot_cases (s : State) (x : Sweep) (t : StationId) (n : Nat) :
    (∃ c, x.subject.allows c ∧ s.advanceSlot x t n = { s with sweep := some { x with cursor := c } }) ∨
    (∃ f, x.subject = .revoke f ∧ s.advanceSlot x t n = s.endSweep x) := by
  unfold State.advanceSlot
  split
  · rename_i u m _
    exact Or.inl ⟨.slotPass u m, by cases x.subject <;> trivial, rfl⟩
  · unfold State.leaveSlotPass
    split
    · rename_i f hf
      exact Or.inr ⟨f, hf, rfl⟩
    · rename_i u q hq
      exact Or.inl ⟨.queuePass u q, by rw [hq]; exact ⟨rfl, rfl⟩, rfl⟩
    · rename_i u hu
      exact Or.inl ⟨_, by rw [hu]; exact rfl, rfl⟩

/-- A step of the slot pass does nothing without a sweep in it; otherwise the cursor moves on, with the slot as it is or
freed (R127). -/
theorem State.slotStep_cases (s : State) :
    s.slotStep = s ∨
    ∃ x t n, s.sweep = some x ∧ x.cursor = .slotPass t n ∧
      (s.slotStep = s.advanceSlot x t n ∨
        ∃ y, s.slot t n = some y ∧ s.isToBeFreed x t y = true ∧
          s.slotStep = (s.sweepSlot t n y).advanceSlot { x with slotsFreed := x.slotsFreed + 1 } t n) := by
  unfold State.slotStep
  cases hx : s.sweep with
  | none => exact Or.inl rfl
  | some x =>
    dsimp only
    cases hc : x.cursor with
    | queuePass => exact Or.inl rfl
    | slotPass t n =>
      refine Or.inr ⟨x, t, n, rfl, hc, ?_⟩
      dsimp only
      cases hy : s.slot t n with
      | none => exact Or.inl rfl
      | some y =>
        dsimp only
        cases hf : s.isToBeFreed x t y with
        | false => exact Or.inl rfl
        | true => exact Or.inr ⟨y, rfl, hf, rfl⟩

/-- The end of a queue's pass: an EVICT goes on to its next queue, or the sweep ends (R128, R137, R138). -/
theorem State.leaveQueue_cases (s : State) (x : Sweep) (t : StationId) (q : Nat) :
    (∃ u r, x.subject = .evict u ∧ s.leaveQueue x t q = { s with sweep := some { x with cursor := .queuePass t r } }) ∨
    (∃ u, x.subject = .evict u ∧ s.leaveQueue x t q = (s.completeEvict u).endSweep x) ∨
    ((∀ u, x.subject ≠ .evict u) ∧ s.leaveQueue x t q = s.endSweep x) := by
  unfold State.leaveQueue
  split
  · rename_i u hu
    split
    · rename_i r _
      exact Or.inl ⟨u, r, hu, rfl⟩
    · exact Or.inr (Or.inl ⟨u, hu, rfl⟩)
  · rename_i f hf
    exact Or.inr (Or.inr ⟨fun u h => by rw [hf] at h; exact (nomatch h), rfl⟩)
  · rename_i u r hr
    exact Or.inr (Or.inr ⟨fun u h => by rw [hr] at h; exact (nomatch h), rfl⟩)

/-- A step of the queue pass does nothing without a sweep in it; otherwise it leaves an UNUSED queue, sets the mark of an
empty one, or frees the head entry and, after the last one, sets the mark (R128). -/
theorem State.queueStep_cases (s : State) :
    s.queueStep = s ∨
    ∃ x t q, s.sweep = some x ∧ x.cursor = .queuePass t q ∧
      ((s.queue t q = none ∧ s.queueStep = s.leaveQueue x t q) ∨
        ∃ y, s.queue t q = some y ∧
          ((y.list = [] ∧ s.queueStep = (s.setMark t q).leaveQueue x t q) ∨
            ∃ e r x', y.list = e :: r ∧ x'.subject = x.subject ∧ x'.cursor = x.cursor ∧
              ((r = [] ∧ s.queueStep = ((s.sweepEntry t q y e.ref r).setMark t q).leaveQueue x' t q) ∨
                (r ≠ [] ∧ s.queueStep = { s.sweepEntry t q y e.ref r with sweep := some x' })))) := by
  unfold State.queueStep
  cases hx : s.sweep with
  | none => exact Or.inl rfl
  | some x =>
    dsimp only
    cases hc : x.cursor with
    | slotPass => exact Or.inl rfl
    | queuePass t q =>
      refine Or.inr ⟨x, t, q, rfl, hc, ?_⟩
      dsimp only
      cases hy : s.queue t q with
      | none => exact Or.inl ⟨rfl, rfl⟩
      | some y =>
        refine Or.inr ⟨y, rfl, ?_⟩
        dsimp only
        cases hl : y.list with
        | nil => exact Or.inl ⟨rfl, rfl⟩
        | cons e r =>
          refine Or.inr ⟨e, r, { x with
            cursor := .queuePass t q
            slotsFreed := if s.holdsReserved e.ref then x.slotsFreed + 1 else x.slotsFreed
            messagesFreed := x.messagesFreed + 1 }, rfl, rfl, hc.symm, ?_⟩
          cases r with
          | nil => exact Or.inl ⟨rfl, rfl⟩
          | cons e' r' => exact Or.inr ⟨List.cons_ne_nil _ _, rfl⟩

/-! ### What the parts of a sweep step leave -/

@[simp] theorem State.slot_voidReserved (s : State) (d n : Nat) (t : StationId) (m : Nat) :
    (s.voidReserved d n).slot t m = s.slot t m := by
  unfold State.voidReserved
  repeat' split
  all_goals rfl

@[simp] theorem State.sweep_sweepSlot (s : State) (t : StationId) (n : Nat) (y : Slot) : (s.sweepSlot t n y).sweep = s.sweep := by
  unfold State.sweepSlot
  dsimp only
  split <;> simp

@[simp] theorem State.sweep_setMark (s : State) (t : StationId) (q : Nat) : (s.setMark t q).sweep = s.sweep := by
  unfold State.setMark
  split <;> simp

@[simp] theorem State.sweep_sweepEntry (s : State) (t : StationId) (q : Nat) (y : Queue) (e : EntryRef) (r : List ListEntry) :
    (s.sweepEntry t q y e r).sweep = s.sweep := by
  simp [State.sweepEntry]

/-! ### The sweep is written over at its end -/

theorem State.callReport_withSweep (s : State) (o : Option Sweep) (t : StationId) (c : ReportContent) :
    State.callReport { s with sweep := o } t c = { s.callReport t c with sweep := o } := by
  have e1 : State.isEnabled { s with sweep := o } t = s.isEnabled t := rfl
  have e2 : State.queue { s with sweep := o } t 0 = s.queue t 0 := rfl
  have e3 : ∀ q, State.canPlace { s with sweep := o } q = s.canPlace q := fun _ => rfl
  unfold State.callReport
  rw [e1, e2]
  cases s.isEnabled t
  · rfl
  · cases s.queue t 0 with
    | none => rfl
    | some q =>
      simp only [e3]
      cases s.canPlace q
      · rfl
      · simp only [if_true, State.placeReport]
        cases q.list.isEmpty <;> rfl

/-- The end of a sweep reads nothing of the sweep in progress. -/
theorem State.endSweep_withSweep (s : State) (o : Option Sweep) (x : Sweep) :
    State.endSweep { s with sweep := o } x = s.endSweep x := by
  have e : State.isCurrent { s with sweep := o } x.requester x.requesterGeneration =
    s.isCurrent x.requester x.requesterGeneration := rfl
  unfold State.endSweep
  rw [e]
  cases s.isCurrent x.requester x.requesterGeneration
  · rfl
  · simp only [if_true, State.callReport_withSweep]

end Sys2Proof.Machine
end

section
/-! PROOFS. The induction over the commands for a predicate that reads the queues in their canonical form at most: it has
to survive the changes of the grants, the records, the Sweep Unit and the stations. -/

namespace Sys2Proof.Machine

/-! ### The record parts of two operations -/

/-- The freeing of a descriptor but for the queue: its grant is dealt with, record and cells return (R46 steps 1 and 2). -/
def State.releasedRecord (s : State) (d : Nat) (x : Descriptor) (cause : FreeCause) : State :=
  let s :=
    match x.grant with
    | none => s
    | some g => s.releaseGrant cause d x.target g
  { s with
    descriptors := Table.erase s.descriptors d
    freeDescriptors := s.freeDescriptors + 1
    freeCells := s.freeCells + x.cells }

theorem State.freeDescriptor_eq (s : State) (d : Nat) (x : Descriptor) (cause : FreeCause) (pl : HeldPlace) :
    s.freeDescriptor d x cause pl = (s.releasedRecord d x cause).releaseHeld x.target x.queue x.cells pl := rfl

/-- The commit of an admission but for the queue: the budgets are paid, a record and its cells are claimed (R76, R77). -/
def State.claimedRecord (s : State) (t : StationId) (m : MessageRequest) (c : AdmissionContext) : State :=
  let attached := (s.spend t m.slot 1).attachGrant t m.attach
  { attached.1 with
    descriptors := Table.put attached.1.descriptors (Table.lowestFree attached.1.descriptors 0)
      { origin := t, target := c.family.issuer, queue := c.family.target, tag := c.family.tag,
        expedite := m.expedite, repeated := false, payload := m.payload, cells := cellsOf m.payload.length,
        seq := none, grant := attached.2 }
    freeDescriptors := attached.1.freeDescriptors - 1
    freeCells := attached.1.freeCells - cellsOf m.payload.length }

/-- The entry of a message in the target queue (R38, R77). -/
def State.enqueued (s : State) (t : StationId) (q : Nat) (x : Queue) (e : ListEntry) (cells : Nat) : State :=
  let s := s.setQueue t q
    { x with list := insertAdmitted x.list e, heldMessages := x.heldMessages + 1, heldCells := x.heldCells + cells }
  let s := { s with heldCells := Bank.set s.heldCells t (Bank.get s.heldCells t + cells) }
  if x.list.isEmpty then s.joinActive t x.band q else s

theorem State.commitMessage_eq (s : State) (t : StationId) (m : MessageRequest) (c : AdmissionContext) :
    s.commitMessage t m c =
      (s.claimedRecord t m c).enqueued c.family.issuer c.family.target c.queue
        ⟨.message (Table.lowestFree ((s.spend t m.slot 1).attachGrant t m.attach).1.descriptors 0),
          if m.expedite then .expedited else .normal⟩ (cellsOf m.payload.length) := rfl

/-- What a predicate must survive that reads the queues in their canonical form at most. -/
structure LedgerInvariant (P : State → Prop) : Prop where
  ports : ∀ (s : State) (l : Bank PortLink), P s → P { s with ports := l }
  queues : ∀ (s : State) (v : Bank (Table Queue)),
    ((∀ t, Table.canonical (Bank.get s.queues t) = true) → ∀ t, Table.canonical (Bank.get v t) = true) → P s →
    P { s with queues := v }
  counts : ∀ (s : State) (rq hc : Bank Nat) (sch : Bank Scheduler), P s →
    P { s with rqsInUse := rq, heldCells := hc, schedulers := sch }
  powerOn : ∀ s : State, P s → P s.powerOn
  clearTables : ∀ (s : State) (t : StationId), P s → P (s.clearTables t)
  placeRecord : ∀ (s : State) (x : ReportRecord), s.freeReports ≠ 0 → P s →
    P { s with reports := Table.put s.reports (Table.lowestFree s.reports 0) x, freeReports := s.freeReports - 1 }
  freeReport : ∀ (s : State) (r : Nat), s.report r ≠ none → P s →
    P { s with reports := Table.erase s.reports r, freeReports := s.freeReports + 1 }
  setReport : ∀ (s : State) (r : Nat) (x : ReportRecord), s.report r ≠ none → P s → P (s.setReport r x)
  setDescriptor : ∀ (s : State) (d : Nat) (x y : Descriptor), s.descriptor d = some x → y.cells = x.cells →
    (∀ f, y.carriesInTransit f = x.carriesInTransit f) → P s → P (s.setDescriptor d y)
  releasedRecord : ∀ (s : State) (d : Nat) (x : Descriptor) (c : FreeCause), s.descriptor d = some x → P s →
    P (s.releasedRecord d x c)
  claimedRecord : ∀ (s : State) (t : StationId) (m : MessageRequest) (c : AdmissionContext),
    s.admissionChecks t m = .ok c → P s → P (s.claimedRecord t m c)
  resolveGrant : ∀ (s : State) (t : StationId) (e : EntryRef), P s → P (s.resolveGrant t e)
  freeSlot : ∀ (s : State) (t : StationId) (n : Nat) (x : Slot), s.slot t n = some x → P s → P (s.freeSlot t n x)
  issueGrant : ∀ (s : State) (t : StationId) (a : IssueGrantParams), P s → P (s.issueGrant t a).state
  installInto : ∀ (s : State) (t : StationId) (a : InstallGrantParams), P s → P (s.installInto t a).state
  setFamily : ∀ (s : State) (f : Nat) (x y : Family), s.family f = some x → y.live = x.live → P s → P (s.setFamily f y)
  revokeFamilies : ∀ (s : State) (test : Family → Bool), P s → P (s.revokeFamilies test)
  startSweep : ∀ (s : State) (t : StationId) (x : SweepSubject) (a b : Nat),
    (∀ u, x = .evict u → (s.station u).state = .evicting) → P s → P (s.startSweep t x a b)
  moveSweep : ∀ (s : State) (x y : Sweep), s.sweep = some x → y.subject = x.subject → P s →
    P { s with sweep := some y }
  endSweep : ∀ (s : State) (o : Option SweepOutcome), P s → P { s with sweep := none, lastCompleted := o }
  setStation : ∀ (s : State) (t : StationId) (x : Station), x.state = (s.station t).state →
    x.manage = (s.station t).manage → P s → P (s.setStation t x)
  enable : ∀ (s : State) (t : StationId) (x : Station), (s.station t).state = .absent → x.state = .enabled → P s →
    P (s.setStation t x)
  setManage : ∀ (s : State) (t : StationId) (b : Bool), P s → P (s.setManage t b).state
  beginEvict : ∀ (s : State) (r t : StationId), s.holdsManage r = true → t ≠ r → s.sweep = none → P s →
    P (s.setStation t { s.station t with state := .evicting })
  endEvict : ∀ (s : State) (x : Sweep) (u : StationId), s.sweep = some x → x.subject = .evict u → P s →
    P { s.setStation u (s.station u).evicted with sweep := none }

namespace LedgerInvariant

variable {P : State → Prop} (h : LedgerInvariant P)
include h

/-! ### Queues and active lists -/

theorem setQueue {s : State} (t : StationId) (q : Nat) (x : Queue) (hs : P s) : P (s.setQueue t q x) :=
  h.queues s _ (fun hc => Bank.canonical_set _ _ _ hc (Table.canonical_put _ _ _ (hc t))) hs

theorem rqsInUse {s : State} (v : Bank Nat) (hs : P s) : P { s with rqsInUse := v } :=
  h.counts s v s.heldCells s.schedulers hs

theorem heldCells {s : State} (v : Bank Nat) (hs : P s) : P { s with heldCells := v } :=
  h.counts s s.rqsInUse v s.schedulers hs

theorem setScheduler {s : State} (t : StationId) (x : Scheduler) (hs : P s) : P (s.setScheduler t x) :=
  h.counts s s.rqsInUse s.heldCells _ hs

theorem joinActive {s : State} (t : StationId) (b : Band) (q : Nat) (hs : P s) : P (s.joinActive t b q) :=
  h.setScheduler t _ hs

theorem leaveActive {s : State} (t : StationId) (b : Band) (q : Nat) (hs : P s) : P (s.leaveActive t b q) :=
  h.setScheduler t _ hs

theorem dropQueue {s : State} (t : StationId) (q : Nat) (hs : P s) : P (s.dropQueue t q) := by
  have he : P { s with queues := Bank.set s.queues t (Table.erase (Bank.get s.queues t) q) } :=
    h.queues s _ (fun hc => Bank.canonical_set _ _ _ hc (Table.canonical_erase _ _ (hc t))) hs
  unfold State.dropQueue
  dsimp only
  split
  · exact he
  · exact h.rqsInUse _ he

theorem settleQueue {s : State} (t : StationId) (q : Nat) (hs : P s) : P (s.settleQueue t q) := by
  rcases s.settleQueue_cases t q with e | ⟨x, -, -, -, -, e⟩ <;> rw [e]
  · exact hs
  · exact h.dropQueue t q hs

theorem releaseHeld {s : State} (t : StationId) (q c : Nat) (pl : HeldPlace) (hs : P s) :
    P (s.releaseHeld t q c pl) := by
  unfold State.releaseHeld
  split
  · exact hs
  · exact h.settleQueue t q (h.heldCells _ (h.setQueue t q _ hs))

/-! ### The shared operations -/

theorem lostReports {s : State} (t : StationId) (n : Nat) (hs : P s) :
    P (s.setStation t { s.station t with lostReports := n }) :=
  h.setStation s t _ rfl rfl hs

theorem placeReport {s : State} (t : StationId) (q : Queue) (c : ReportContent) (hr : s.freeReports ≠ 0) (hs : P s) :
    P (s.placeReport t q c) := by
  have hp : P _ := h.setQueue t 0
    { q with
      list := q.list ++ [⟨.report (Table.lowestFree s.reports 0), .normal⟩], heldMessages := q.heldMessages + 1 }
    (h.lostReports t 0 (h.placeRecord s ⟨t, c, (s.station t).lostReports, false, none⟩ hr hs))
  unfold State.placeReport
  dsimp only
  split
  · exact h.joinActive t _ 0 hp
  · exact hp

theorem callReport (s : State) (t : StationId) (c : ReportContent) (hs : P s) : P (s.callReport t c) := by
  rcases s.callReport_cases t c with ⟨-, e⟩ | ⟨q, -, -, hc, e⟩ | ⟨-, -, e⟩ <;> rw [e]
  · exact hs
  · have hr : s.freeReports ≠ 0 := by
      simp only [State.canPlace, Bool.and_eq_true, bne_iff_ne] at hc
      exact hc.1
    exact h.placeReport t q c hr hs
  · exact h.lostReports t _ hs

theorem freeEntry (s : State) (e : EntryRef) (c : FreeCause) (pl : HeldPlace) (hs : P s) : P (s.freeEntry e c pl) := by
  cases e with
  | message d =>
    unfold State.freeEntry
    dsimp only
    cases hd : s.descriptor d with
    | none => exact hs
    | some x =>
      dsimp only
      rw [State.freeDescriptor_eq]
      exact h.releaseHeld _ _ _ _ (h.releasedRecord s d x c hd hs)
  | report r =>
    unfold State.freeEntry
    dsimp only
    cases hr : s.report r with
    | none => exact hs
    | some x => exact h.releaseHeld _ _ _ _ (h.freeReport s r (by rw [hr]; exact Option.some_ne_none x) hs)

theorem clearSeq {s : State} (e : EntryRef) (hs : P s) : P (s.clearSeq e) := by
  unfold State.clearSeq
  cases e with
  | message d =>
    dsimp only
    cases hd : s.descriptor d with
    | none => exact hs
    | some x => exact h.setDescriptor s d x _ hd rfl (fun _ => rfl) hs
  | report r =>
    dsimp only
    cases hr : s.report r with
    | none => exact hs
    | some x => exact h.setReport s r _ (by rw [hr]; exact Option.some_ne_none x) hs

theorem returnEntry {s : State} (t : StationId) (q : Nat) (x : Queue) (e : EntryRef) (k : Nat) (hs : P s) :
    P (s.returnEntry t q x e k) := by
  have hr : P _ := h.setQueue t q
    { x with list := x.list.take k ++ ⟨e, .returned⟩ :: x.list.drop k, outstanding := x.outstanding - 1 }
    (h.clearSeq e hs)
  unfold State.returnEntry
  dsimp only
  split
  · exact h.joinActive t _ q hr
  · exact hr

theorem toStoreInvariant : StoreInvariant P where
  ports := h.ports
  callReport := h.callReport
  freeEntry := h.freeEntry
  returnEntry _ t q x e k _ _ := h.returnEntry t q x e k

/-! ### Selections -/

theorem giveSeq {s : State} (e : EntryRef) (n : SeqNum) (hs : P s) : P (s.giveSeq e n) := by
  unfold State.giveSeq
  cases e with
  | message d =>
    dsimp only
    cases hd : s.descriptor d with
    | none => exact hs
    | some x => exact h.setDescriptor s d x _ hd rfl (fun _ => rfl) hs
  | report r =>
    dsimp only
    cases hr : s.report r with
    | none => exact hs
    | some x => exact h.setReport s r _ (by rw [hr]; exact Option.some_ne_none x) hs

theorem markRepeated {s : State} (e : EntryRef) (hs : P s) : P (s.markRepeated e) := by
  unfold State.markRepeated
  cases e with
  | message d =>
    dsimp only
    cases hd : s.descriptor d with
    | none => exact hs
    | some x => exact h.setDescriptor s d x _ hd rfl (fun _ => rfl) hs
  | report r =>
    dsimp only
    cases hr : s.report r with
    | none => exact hs
    | some x => exact h.setReport s r _ (by rw [hr]; exact Option.some_ne_none x) hs

theorem transmit {s : State} (p : PortId) (e : EntryRef) (hs : P s) : P (s.transmit p e) :=
  h.ports _ _ (h.markRepeated e (h.resolveGrant _ p e (h.giveSeq e _ hs)))

theorem select (s : State) (p : PortId) (hs : P s) : P (s.select p) := by
  rcases s.select_cases p with e | ⟨q, turn, x, e, r, sch, -, -, -, he, -⟩
  · rw [e]; exact hs
  · rw [he]; exact h.transmit p _ (h.setScheduler p _ (h.setQueue p q _ hs))

/-! ### Sweep steps -/

theorem finishSweep {s : State} (x : Sweep) (hs : P s) : P (s.endSweep x) := by
  unfold State.endSweep
  dsimp only
  split
  · exact h.endSweep _ _ (h.callReport s _ _ hs)
  · exact h.endSweep _ _ hs

theorem completeEvict {s : State} (x y : Sweep) (u : StationId) (hx : s.sweep = some x) (hu : x.subject = .evict u)
    (hs : P s) : P ((s.completeEvict u).endSweep y) := by
  rw [← State.endSweep_withSweep _ none]
  exact h.finishSweep y (h.setScheduler u _ (h.endEvict s x u hx hu hs))

theorem leaveQueue {s : State} (x y : Sweep) (t : StationId) (q : Nat) (hx : s.sweep = some x)
    (hy : y.subject = x.subject) (hs : P s) : P (s.leaveQueue y t q) := by
  rcases s.leaveQueue_cases y t q with ⟨u, r, -, e⟩ | ⟨u, hu, e⟩ | ⟨-, e⟩ <;> rw [e]
  · exact h.moveSweep s x _ hx hy hs
  · exact h.completeEvict x y u hx (hy ▸ hu) hs
  · exact h.finishSweep y hs

theorem advanceSlot {s : State} (x y : Sweep) (t : StationId) (n : Nat) (hx : s.sweep = some x)
    (hy : y.subject = x.subject) (hs : P s) : P (s.advanceSlot y t n) := by
  rcases s.advanceSlot_cases y t n with ⟨c, -, e⟩ | ⟨f, -, e⟩ <;> rw [e]
  · exact h.moveSweep s x _ hx hy hs
  · exact h.finishSweep y hs

theorem voidReserved {s : State} (d n : Nat) (hs : P s) : P (s.voidReserved d n) := by
  unfold State.voidReserved
  cases hd : s.descriptor d with
  | none => exact hs
  | some x =>
    dsimp only
    cases hg : x.grant with
    | none => exact hs
    | some g =>
      dsimp only
      split
      · rename_i hr
        refine h.setDescriptor s d x _ hd rfl (fun f => ?_) hs
        have hn : (g.state == .inTransit) = false := by rw [eq_of_beq hr]; rfl
        have hv : (CarriedState.void .revoked == .inTransit) = false := rfl
        simp [Descriptor.carriesInTransit, hg, hn, hv]
      · exact hs

theorem sweepSlot {s : State} (t : StationId) (n : Nat) (y : Slot) (hy : s.slot t n = some y) (hs : P s) :
    P (s.sweepSlot t n y) := by
  unfold State.sweepSlot
  dsimp only
  split
  · exact h.freeSlot _ t n y (by rw [State.slot_voidReserved]; exact hy) (h.voidReserved _ _ hs)
  · exact h.freeSlot s t n y hy hs

theorem slotStep (s : State) (hs : P s) : P s.slotStep := by
  rcases s.slotStep_cases with e | ⟨x, t, n, hx, -, e | ⟨y, hy, -, e⟩⟩ <;> rw [e]
  · exact hs
  · exact h.advanceSlot x x t n hx rfl hs
  · exact h.advanceSlot x _ t n ((State.sweep_sweepSlot s t n y).trans hx) rfl (h.sweepSlot t n y hy hs)

theorem setMark {s : State} (t : StationId) (q : Nat) (hs : P s) : P (s.setMark t q) := by
  unfold State.setMark
  split
  · exact hs
  · exact h.settleQueue t q (h.setQueue t q _ hs)

theorem sweepEntry {s : State} (t : StationId) (q : Nat) (y : Queue) (e : EntryRef) (r : List ListEntry) (hs : P s) :
    P (s.sweepEntry t q y e r) :=
  h.freeEntry _ e _ _ (h.setQueue t q _ hs)

theorem queueStep (s : State) (hs : P s) : P s.queueStep := by
  rcases s.queueStep_cases with e | ⟨x, t, q, hx, -, ⟨-, e⟩ | ⟨y, -, ⟨-, e⟩ | ⟨e', r, x', -, hsub, -, ⟨-, e⟩ | ⟨-, e⟩⟩⟩⟩ <;>
    rw [e]
  · exact hs
  · exact h.leaveQueue x x t q hx rfl hs
  · exact h.leaveQueue x x t q ((State.sweep_setMark s t q).trans hx) rfl (h.setMark t q hs)
  · exact h.leaveQueue x x' t q (by rw [State.sweep_setMark, State.sweep_sweepEntry]; exact hx) hsub
      (h.setMark t q (h.sweepEntry t q y _ r hs))
  · exact h.moveSweep _ x x' ((State.sweep_sweepEntry ..).trans hx) hsub (h.sweepEntry t q y _ r hs)

/-! ### Requests -/

theorem dropGrant (s : State) (t : StationId) (n : Nat) (hs : P s) : P (s.dropGrant t n).state := by
  unfold State.dropGrant
  cases hx : s.slot t n with
  | none => exact hs
  | some x =>
    dsimp only
    split
    · exact hs
    · exact h.freeSlot s t n x hx hs

theorem openQueue (s : State) (t : StationId) (a : Nat × Nat × Nat) (hs : P s) : P (s.openQueue t a).state := by
  unfold State.openQueue
  dsimp only
  repeat' split
  all_goals first | exact hs | exact h.rqsInUse _ (h.setQueue t _ _ hs)

theorem changeSeal (s : State) (t : StationId) (q : Nat) (a b : QueueState) (hs : P s) :
    P (s.changeSeal t q a b).state := by
  unfold State.changeSeal
  repeat' split
  all_goals first | exact hs | exact h.setQueue t q _ hs

theorem setDepth (s : State) (t : StationId) (a : Nat × Nat) (hs : P s) : P (s.setDepth t a).state := by
  unfold State.setDepth
  repeat' split
  all_goals first | exact hs | exact h.setQueue t _ _ hs

theorem moveBand {s : State} (t : StationId) (q : Nat) (x : Queue) (n : Band) (hs : P s) : P (s.moveBand t q x n) := by
  have hr := h.setQueue t q { x with band := n } hs
  unfold State.moveBand
  dsimp only
  repeat' split
  all_goals first | exact hr | exact h.joinActive t n q (h.leaveActive t x.band q hr)

theorem setBand (s : State) (t : StationId) (a : Nat × Nat) (hs : P s) : P (s.setBand t a).state := by
  unfold State.setBand
  repeat' split
  all_goals first | exact hs | exact h.moveBand t _ _ _ hs

theorem revokeFamily (s : State) (t : StationId) (f : Nat) (hs : P s) : P (s.revokeFamily t f).state := by
  unfold State.revokeFamily
  cases hf : s.family f with
  | none => exact hs
  | some x =>
    dsimp only
    repeat' split
    all_goals first
      | exact hs
      | exact h.startSweep _ t _ 0 0 (fun _ k => nomatch k) (h.setFamily s f x _ hf rfl hs)

theorem purgeQueue (s : State) (r t : StationId) (q : Nat) (hs : P s) : P (s.purgeQueue r t q).state := by
  unfold State.purgeQueue
  repeat' split
  all_goals first
    | exact hs
    | exact h.startSweep _ r _ 0 0 (fun _ k => nomatch k)
        (h.revokeFamilies _ _ (h.leaveActive t _ q (h.setQueue t q _ hs)))

theorem purgeAllQueues {s : State} (t : StationId) (hs : P s) : P (s.purgeAllQueues t) :=
  h.setScheduler t _
    (h.queues s _ (fun hc => Bank.canonical_set _ _ _ hc (Table.canonical_mapRecords _ _ (hc t))) hs)

theorem evictStation (s : State) (r t : StationId) (hr : s.holdsManage r = true) (ht : t ≠ r) (hs : P s) :
    P (s.evictStation r t).state := by
  unfold State.evictStation
  split
  · exact hs
  · split
    · exact hs
    · rename_i hn
      have hnone : s.sweep = none := by simpa using hn
      have hb := h.beginEvict s r t hr ht hnone hs
      have hp := h.purgeAllQueues t (h.revokeFamilies _ (fun x => x.issuer == t) hb)
      have hst : (((((s.setStation t { s.station t with state := .evicting }).revokeFamilies
          (fun x => x.issuer == t)).purgeAllQueues t).station t).standing) =
          ({ s.station t with state := .evicting } : Station).standing :=
        congrArg Station.standing (State.station_setStation_self s t _)
      dsimp only
      split
      · refine h.startSweep _ r _ _ _ ?_ (h.ports _ _ (h.toStoreInvariant.endSession t hp))
        intro u hu
        cases hu
        exact Station.state_of_standing ((standing_grantBlind t _).toStoreInvariant.endSession t hst)
      · refine h.startSweep _ r _ _ _ ?_ hp
        intro u hu
        cases hu
        exact Station.state_of_standing hst

theorem enableStation (s : State) (t : StationId) (a : EnableParams) (hs : P s) : P (s.enableStation t a).state := by
  unfold State.enableStation
  split
  · rename_i ha
    exact h.setScheduler t _ (h.setQueue t 0 _ (h.enable s t _ ha rfl hs))
  · exact hs

theorem setLimits (s : State) (t : StationId) (a : LimitsParams) (hs : P s) : P (s.setLimits t a).state := by
  unfold State.setLimits
  dsimp only
  repeat' split
  all_goals first | exact hs | exact h.setStation s t _ rfl rfl hs

theorem toCommandInvariant : CommandInvariant P where
  toStoreInvariant := h.toStoreInvariant
  powerOn := h.powerOn
  commitMessage s t m c hc hs := by
    have hr := h.claimedRecord s t m c hc hs
    rw [State.commitMessage_eq]
    unfold State.enqueued
    dsimp only
    split
    · exact h.joinActive _ _ _ (h.heldCells _ (h.setQueue _ _ _ hr))
    · exact h.heldCells _ (h.setQueue _ _ _ hr)
  select := h.select
  slotStep := h.slotStep
  queueStep := h.queueStep
  issueGrant := h.issueGrant
  dropGrant := h.dropGrant
  installInto := h.installInto
  openQueue s t a _ := h.openQueue s t a
  changeSeal s t q a b _ _ := h.changeSeal s t q a b
  setDepth := h.setDepth
  setBand := h.setBand
  setQuanta s t a hs := h.setStation s t _ rfl rfl hs
  revokeFamily := h.revokeFamily
  purgeQueue := h.purgeQueue
  evictStation := h.evictStation
  enableStation := h.enableStation
  setLimits := h.setLimits
  setManage := h.setManage
  clearTables := h.clearTables

end LedgerInvariant

/-- What a predicate must survive that does not look at the ports, the Sweep Unit and the stations either. -/
structure RecordInvariant (P : State → Prop) : Prop where
  frame : ∀ (s : State) (rq hc : Bank Nat) (sch : Bank Scheduler) (po : Bank PortLink) (sw : Option Sweep) (lt : Nat)
    (lc : Option SweepOutcome) (st : Bank Station), P s →
    P { s with
      rqsInUse := rq, heldCells := hc, schedulers := sch, ports := po, sweep := sw, lastTicket := lt
      lastCompleted := lc, stations := st }
  queues : ∀ (s : State) (v : Bank (Table Queue)),
    ((∀ t, Table.canonical (Bank.get s.queues t) = true) → ∀ t, Table.canonical (Bank.get v t) = true) → P s →
    P { s with queues := v }
  powerOn : ∀ s : State, P s → P s.powerOn
  clearTables : ∀ (s : State) (t : StationId), P s → P (s.clearTables t)
  placeRecord : ∀ (s : State) (x : ReportRecord), s.freeReports ≠ 0 → P s →
    P { s with reports := Table.put s.reports (Table.lowestFree s.reports 0) x, freeReports := s.freeReports - 1 }
  freeReport : ∀ (s : State) (r : Nat), s.report r ≠ none → P s →
    P { s with reports := Table.erase s.reports r, freeReports := s.freeReports + 1 }
  setReport : ∀ (s : State) (r : Nat) (x : ReportRecord), s.report r ≠ none → P s → P (s.setReport r x)
  setDescriptor : ∀ (s : State) (d : Nat) (x y : Descriptor), s.descriptor d = some x → y.cells = x.cells →
    (∀ f, y.carriesInTransit f = x.carriesInTransit f) → P s → P (s.setDescriptor d y)
  releasedRecord : ∀ (s : State) (d : Nat) (x : Descriptor) (c : FreeCause), s.descriptor d = some x → P s →
    P (s.releasedRecord d x c)
  claimedRecord : ∀ (s : State) (t : StationId) (m : MessageRequest) (c : AdmissionContext),
    s.admissionChecks t m = .ok c → P s → P (s.claimedRecord t m c)
  resolveGrant : ∀ (s : State) (t : StationId) (e : EntryRef), P s → P (s.resolveGrant t e)
  freeSlot : ∀ (s : State) (t : StationId) (n : Nat) (x : Slot), s.slot t n = some x → P s → P (s.freeSlot t n x)
  issueGrant : ∀ (s : State) (t : StationId) (a : IssueGrantParams), P s → P (s.issueGrant t a).state
  installInto : ∀ (s : State) (t : StationId) (a : InstallGrantParams), P s → P (s.installInto t a).state
  setFamily : ∀ (s : State) (f : Nat) (x y : Family), s.family f = some x → y.live = x.live → P s → P (s.setFamily f y)
  revokeFamilies : ∀ (s : State) (test : Family → Bool), P s → P (s.revokeFamilies test)

theorem RecordInvariant.toLedgerInvariant {P : State → Prop} (h : RecordInvariant P) : LedgerInvariant P where
  ports s l := h.frame s s.rqsInUse s.heldCells s.schedulers l s.sweep s.lastTicket s.lastCompleted s.stations
  counts s rq hc sch := h.frame s rq hc sch s.ports s.sweep s.lastTicket s.lastCompleted s.stations
  queues := h.queues
  powerOn := h.powerOn
  clearTables := h.clearTables
  placeRecord := h.placeRecord
  freeReport := h.freeReport
  setReport := h.setReport
  setDescriptor := h.setDescriptor
  releasedRecord := h.releasedRecord
  claimedRecord := h.claimedRecord
  resolveGrant := h.resolveGrant
  freeSlot := h.freeSlot
  issueGrant := h.issueGrant
  installInto := h.installInto
  setFamily := h.setFamily
  revokeFamilies := h.revokeFamilies
  startSweep s _ _ _ _ _ := h.frame s s.rqsInUse s.heldCells s.schedulers s.ports _ _ s.lastCompleted s.stations
  moveSweep s _ y _ _ := h.frame s s.rqsInUse s.heldCells s.schedulers s.ports (some y) s.lastTicket s.lastCompleted
    s.stations
  endSweep s o := h.frame s s.rqsInUse s.heldCells s.schedulers s.ports none s.lastTicket o s.stations
  setStation s _ _ _ _ := h.frame s s.rqsInUse s.heldCells s.schedulers s.ports s.sweep s.lastTicket s.lastCompleted _
  enable s _ _ _ _ := h.frame s s.rqsInUse s.heldCells s.schedulers s.ports s.sweep s.lastTicket s.lastCompleted _
  setManage s t b hs := by
    unfold State.setManage
    dsimp only
    repeat' split
    all_goals first
      | exact hs
      | exact h.frame s s.rqsInUse s.heldCells s.schedulers s.ports s.sweep s.lastTicket s.lastCompleted _ hs
  beginEvict s _ _ _ _ _ :=
    h.frame s s.rqsInUse s.heldCells s.schedulers s.ports s.sweep s.lastTicket s.lastCompleted _
  endEvict s _ _ _ _ := h.frame s s.rqsInUse s.heldCells s.schedulers s.ports none s.lastTicket s.lastCompleted _

end Sys2Proof.Machine
end

section
/-! PROOFS. The waiting commands and the canonical form of the stores under every command; the statement O3. -/

namespace Sys2Proof.Machine

/-! ### The waiting commands -/

@[simp] theorem State.spend_pending (s : State) (t : StationId) (n b : Nat) : (s.spend t n b).pending = s.pending := by
  unfold State.spend
  split <;> rfl

@[simp] theorem State.attachGrant_pending (s : State) (t : StationId) (a : Option Attach) :
    (s.attachGrant t a).1.pending = s.pending := by
  unfold State.attachGrant
  repeat' split
  all_goals simp [State.vacateSlot]

@[simp] theorem State.releasedRecord_pending (s : State) (d : Nat) (x : Descriptor) (c : FreeCause) :
    (s.releasedRecord d x c).pending = s.pending := by
  unfold State.releasedRecord
  cases x.grant <;> simp

/-- No command looks at the commands that wait behind it, or changes them (log 8). -/
theorem pending_recordInvariant (l : List Instr) : RecordInvariant (fun s => s.pending = l) where
  queues _ _ _ h := h
  frame _ _ _ _ _ _ _ _ _ h := h
  powerOn _ h := h
  clearTables _ _ h := h
  placeRecord _ _ _ h := h
  freeReport _ _ _ h := h
  setReport _ _ _ _ h := h
  setDescriptor _ _ _ _ _ _ _ h := h
  releasedRecord s d x c _ h := (s.releasedRecord_pending d x c).trans h
  claimedRecord s t m c _ h := by simpa [State.claimedRecord] using h
  resolveGrant s t e h := (s.resolveGrant_pending t e).trans h
  freeSlot s t n x _ h := (s.freeSlot_pending t n x).trans h
  issueGrant s t a h := by
    unfold State.issueGrant
    split <;> exact h
  installInto s t a h := by
    unfold State.installInto
    repeat' split
    all_goals first | exact h | exact (State.raiseLive_pending _ _).trans h
  setFamily _ _ _ _ _ _ h := h
  revokeFamilies _ _ h := h


/-! ### The canonical form -/

theorem State.reserve_storesCanonical (s : State) (t : StationId) (d : Nat) (g : CarriedGrant)
    (h : s.storesCanonical) : (s.reserve t d g).1.storesCanonical := by
  rcases s.reserve_cases t d g with ⟨r, e⟩ | ⟨-, -, -, e⟩ <;> rw [e]
  · exact h
  · exact s.takeSlot_storesCanonical t _ _ h

theorem State.resolveGrant_storesCanonical (s : State) (t : StationId) (e : EntryRef) (h : s.storesCanonical) :
    (s.resolveGrant t e).storesCanonical := by
  have hr : ∀ d g x, ((s.reserve t d g).1.setDescriptor d x).storesCanonical := fun d g x =>
    State.setDescriptor_storesCanonical _ d x (s.reserve_storesCanonical t d g h)
  unfold State.resolveGrant
  dsimp only
  repeat' split
  all_goals first | exact h | exact State.lowerLive_storesCanonical _ _ (hr _ _ _) | exact hr _ _ _

theorem State.spend_storesCanonical (s : State) (t : StationId) (n b : Nat) (h : s.storesCanonical) :
    (s.spend t n b).storesCanonical := by
  unfold State.spend
  split
  · exact h
  · exact s.writeSlot_storesCanonical t n _ h

theorem State.attachGrant_storesCanonical (s : State) (t : StationId) (a : Option Attach) (h : s.storesCanonical) :
    (s.attachGrant t a).1.storesCanonical := by
  unfold State.attachGrant
  repeat' split
  all_goals first
    | exact h
    | exact State.raiseLive_storesCanonical _ _ (s.spend_storesCanonical t _ _ h)
    | exact s.vacateSlot_storesCanonical t _ h

theorem State.claimedRecord_storesCanonical (s : State) (t : StationId) (m : MessageRequest) (c : AdmissionContext)
    (h : s.storesCanonical) : (s.claimedRecord t m c).storesCanonical :=
  State.setDescriptor_storesCanonical _ _ _ (State.attachGrant_storesCanonical _ t _ (s.spend_storesCanonical t _ _ h))

theorem State.releasedRecord_storesCanonical (s : State) (d : Nat) (x : Descriptor) (c : FreeCause)
    (h : s.storesCanonical) : (s.releasedRecord d x c).storesCanonical := by
  unfold State.releasedRecord
  refine State.eraseDescriptor_storesCanonical _ d _ _ ?_
  split
  · exact h
  · exact s.releaseGrant_storesCanonical c d _ _ h

theorem State.reset_storesCanonical : State.reset.storesCanonical := by decide +kernel

/-- After CLEAR TABLES every store is empty but for RQ 0 of the requester (R193). -/
theorem State.clearTables_storesCanonical (s : State) (t : StationId) : (s.clearTables t).storesCanonical :=
  ⟨fun u => by rw [show (s.clearTables t).tables = Bank.fill [] from rfl, Bank.get_fill]; rfl,
    Bank.canonical_set _ t _ (fun u => by rw [Bank.get_fill]; rfl) rfl, rfl, rfl, rfl⟩

theorem canonical_recordInvariant : RecordInvariant State.storesCanonical where
  queues _ _ hv h := ⟨h.1, hv h.2.1, h.2.2⟩
  frame _ _ _ _ _ _ _ _ _ h := h
  powerOn _ _ := State.reset_storesCanonical
  clearTables s t _ := s.clearTables_storesCanonical t
  placeRecord s x _ h := s.setReport_storesCanonical _ x h
  freeReport s r _ h := s.eraseReport_storesCanonical r _ h
  setReport s r x _ h := s.setReport_storesCanonical r x h
  setDescriptor s d _ y _ _ _ h := s.setDescriptor_storesCanonical d y h
  releasedRecord s d x c _ h := s.releasedRecord_storesCanonical d x c h
  claimedRecord s t m c _ h := s.claimedRecord_storesCanonical t m c h
  resolveGrant s t e h := s.resolveGrant_storesCanonical t e h
  freeSlot s t n x _ h := s.freeSlot_storesCanonical t n x h
  issueGrant s t a h := by
    unfold State.issueGrant
    split
    · exact h
    · exact State.takeSlot_storesCanonical _ t _ _ (s.setFamily_storesCanonical _ _ h)
  installInto s t a h := by
    unfold State.installInto
    repeat' split
    all_goals first | exact h | exact State.raiseLive_storesCanonical _ _ (s.takeSlot_storesCanonical t _ _ h)
  setFamily s f _ y _ _ h := s.setFamily_storesCanonical f y h
  revokeFamilies s test h := s.revokeFamilies_storesCanonical test h


end Sys2Proof.Machine

namespace Sys2Proof.Proofs

open Sys2Proof.Machine

/-- Settles O3: that the waiting commands are a given list is kept by every command, so each answers a next state with
the same list. -/
theorem everyCommandAnswersNextAndKeepsTheQueue : Obligations.EveryCommandAnswersNextAndKeepsTheQueue := fun c s =>
  (pending_recordInvariant s.pending).toLedgerInvariant.toCommandInvariant.exec c rfl

end Sys2Proof.Proofs
end

section
/-! PROOFS. Slots in use and the store use count under every command (R4, R5), and the statement O53. -/

namespace Sys2Proof.Machine

/-! ### Sums over the eight stations -/

theorem Bank.total_eq_sum (v : Bank Nat) : Bank.total v = ∑ t, Bank.get v t := by
  rw [Fin.sum_univ_def]; rfl

/-- Changing one of eight items changes the sum of a measure over them by as much. -/
theorem Bank.sum_set {α : Type} (v : Bank α) (t : Fin 8) (x : α) (g : α → Nat) :
    (∑ u, g (Bank.get (Bank.set v t x) u)) + g (Bank.get v t) = (∑ u, g (Bank.get v u)) + g x := by
  rw [← Finset.add_sum_erase _ (fun u => g (Bank.get v u)) (Finset.mem_univ t),
    ← Finset.add_sum_erase _ (fun u => g (Bank.get (Bank.set v t x) u)) (Finset.mem_univ t), Bank.get_set_self,
    Finset.sum_congr rfl (fun u hu => congrArg g (Bank.get_set_ne v x (Finset.ne_of_mem_erase hu)))]
  omega

theorem Bank.total_set (v : Bank Nat) (t : Fin 8) (x : Nat) :
    Bank.total (Bank.set v t x) + Bank.get v t = Bank.total v + x := by
  rw [Bank.total_eq_sum, Bank.total_eq_sum]
  exact Bank.sum_set v t x id

/-! ### What the live counts leave of the slots -/

/-- The grant tables, their counts and the store use count are as before. -/
def State.SameSlots (s t : State) : Prop :=
  t.tables = s.tables ∧ t.slotsInUse = s.slotsInUse ∧ t.storeUse = s.storeUse

theorem State.closeFamily_sameSlots (s : State) (f : Nat) (x : Family) : s.SameSlots (s.closeFamily f x) := by
  unfold State.closeFamily
  dsimp only
  split
  · exact ⟨by simp, by simp, by simp⟩
  · exact ⟨rfl, rfl, rfl⟩

theorem State.lowerLive_sameSlots (s : State) (f : Nat) : s.SameSlots (s.lowerLive f) := by
  rcases s.lowerLive_cases f with ⟨-, e⟩ | ⟨x, -, -, e⟩ | ⟨x, -, -, e⟩ <;> rw [e]
  · exact ⟨rfl, rfl, rfl⟩
  · exact s.closeFamily_sameSlots f x
  · exact ⟨rfl, rfl, rfl⟩

theorem State.raiseLive_sameSlots (s : State) (f : Nat) : s.SameSlots (s.raiseLive f) := by
  unfold State.raiseLive
  split <;> exact ⟨rfl, rfl, rfl⟩

theorem State.SameSlots.slotsCounted {s t : State} (h : s.SameSlots t) (hs : s.slotsCounted) : t.slotsCounted := by
  obtain ⟨h1, h2, h3⟩ := h
  unfold State.slotsCounted at hs ⊢
  rw [h1, h2, h3]
  exact hs

/-! ### The three changes of a slot -/

theorem State.writeSlot_slotsCounted (s : State) (t : StationId) (n : Nat) (x : Slot) (hn : s.slot t n ≠ none)
    (hs : s.slotsCounted) : (s.writeSlot t n x).slotsCounted := by
  obtain ⟨hc, hl, hu, hb⟩ := hs
  refine ⟨Bank.canonical_set _ _ _ hc (Table.canonical_put _ _ _ (hc t)), fun u => ?_, hu, hb⟩
  rw [State.writeSlot_tables, Bank.get_set]
  split
  · rename_i hut
    rw [Table.length_put_old _ _ _ (hc t) hn]
    exact hut ▸ hl t
  · exact hl u

theorem State.takeSlot_slotsCounted (s : State) (t : StationId) (n : Nat) (x : Slot) (hn : s.slot t n = none)
    (hr : s.storeHasRoom = true) (hs : s.slotsCounted) : (s.takeSlot t n x).slotsCounted := by
  obtain ⟨hc, hl, hu, -⟩ := hs
  have hroom : s.storeUse < Config.storeCapacity := of_decide_eq_true hr
  have htotal := Bank.total_set s.slotsInUse t (Bank.get s.slotsInUse t + 1)
  refine ⟨Bank.canonical_set _ _ _ hc (Table.canonical_put _ _ _ (hc t)), fun u => ?_, ?_, hroom⟩
  · rw [State.takeSlot_slotsInUse, State.takeSlot_tables, Bank.get_set, Bank.get_set]
    split
    · rw [Table.length_put_new (Bank.get s.tables t) n x hn, hl t]
    · exact hl u
  · rw [State.takeSlot_storeUse, State.takeSlot_slotsInUse]
    omega

theorem State.vacateSlot_slotsCounted (s : State) (t : StationId) (n : Nat) (hn : s.slot t n ≠ none)
    (hs : s.slotsCounted) : (s.vacateSlot t n).slotsCounted := by
  obtain ⟨hc, hl, hu, hb⟩ := hs
  have herase : (Table.erase (Bank.get s.tables t) n).length + 1 = (Bank.get s.tables t).length :=
    Table.length_erase _ _ hn
  have ht := hl t
  have htotal := Bank.total_set s.slotsInUse t (Bank.get s.slotsInUse t - 1)
  refine ⟨Bank.canonical_set _ _ _ hc (Table.canonical_erase _ _ (hc t)), fun u => ?_, ?_, ?_⟩
  · rw [State.vacateSlot_slotsInUse, State.vacateSlot_tables, Bank.get_set, Bank.get_set]
    split
    · omega
    · exact hl u
  · rw [State.vacateSlot_storeUse, State.vacateSlot_slotsInUse]
    omega
  · rw [State.vacateSlot_storeUse]
    omega

/-! ### The operations made of them -/

theorem State.freeSlot_slotsCounted (s : State) (t : StationId) (n : Nat) (x : Slot) (hn : s.slot t n ≠ none)
    (hs : s.slotsCounted) : (s.freeSlot t n x).slotsCounted :=
  (State.lowerLive_sameSlots _ _).slotsCounted (s.vacateSlot_slotsCounted t n hn hs)

theorem State.slot_of_reservedSlot {s : State} {t : StationId} {n d : Nat} {x : Slot}
    (h : s.reservedSlot t n d = some x) : s.slot t n = some x := (Option.filter_eq_some_iff.1 h).1

theorem State.slot_of_definedSlot {s : State} {t : StationId} {n : Nat} {x : Slot}
    (h : s.definedSlot t n = some x) : s.slot t n = some x := (Option.filter_eq_some_iff.1 h).1

/-- The slot that a request takes is FREE, where the one it names is (R3). -/
theorem State.slot_chosenSlot (s : State) (t : StationId) (k : Nat) (hc : Table.canonical (Bank.get s.tables t) = true)
    (hk : k ≠ 0 → s.slot t k = none) : s.slot t (s.chosenSlot t k) = none := by
  unfold State.chosenSlot
  split
  · exact Table.find_lowestFree _ _ hc
  · rename_i h
    exact hk h

theorem State.releaseGrant_slotsCounted (s : State) (c : FreeCause) (d : Nat) (t : StationId) (g : CarriedGrant)
    (hs : s.slotsCounted) : (s.releaseGrant c d t g).slotsCounted := by
  have hfree : ∀ {n x}, s.reservedSlot t n d = some x → (s.freeSlot t n x).slotsCounted := fun hx =>
    s.freeSlot_slotsCounted t _ _ (by rw [State.slot_of_reservedSlot hx]; exact Option.some_ne_none _) hs
  unfold State.releaseGrant
  cases g.state with
  | inTransit => exact (s.lowerLive_sameSlots _).slotsCounted hs
  | void r => exact hs
  | reserved n =>
    cases c with
    | acknowledged =>
      dsimp only
      rcases s.definitionClaim_cases t n d with ⟨-, e⟩ | ⟨x, hx, -, e⟩ | ⟨x, hx, -, e⟩ <;> rw [e]
      · exact hs
      · exact s.writeSlot_slotsCounted t n _ (by rw [State.slot_of_reservedSlot hx]; exact Option.some_ne_none _) hs
      · exact hfree hx
    | withdrawn =>
      dsimp only
      unfold State.freeReserved
      split
      · exact hs
      · rename_i x hx
        exact hfree hx

theorem State.resolveGrant_slotsCounted (s : State) (t : StationId) (e : EntryRef) (hs : s.slotsCounted) :
    (s.resolveGrant t e).slotsCounted := by
  have hr : ∀ d g, (s.reserve t d g).1.slotsCounted := by
    intro d g
    rcases s.reserve_cases t d g with ⟨r, e⟩ | ⟨-, -, hroom, e⟩ <;> rw [e]
    · exact hs
    · exact s.takeSlot_slotsCounted t _ _ (Table.find_lowestFree _ _ (hs.1 t)) hroom hs
  have hset : ∀ d g x, ((s.reserve t d g).1.setDescriptor d x).slotsCounted := fun d g x => hr d g
  unfold State.resolveGrant
  dsimp only
  repeat' split
  all_goals first
    | exact hs
    | exact (State.lowerLive_sameSlots _ _).slotsCounted (hset _ _ _)
    | exact hset _ _ _

theorem State.spend_slotsCounted (s : State) (t : StationId) (n b : Nat) (hs : s.slotsCounted) :
    (s.spend t n b).slotsCounted := by
  unfold State.spend
  split
  · exact hs
  · rename_i x hx
    exact s.writeSlot_slotsCounted t n _ (by rw [hx]; exact Option.some_ne_none x) hs

theorem State.attachGrant_slotsCounted (s : State) (t : StationId) (a : Option Attach) (hs : s.slotsCounted) :
    (s.attachGrant t a).1.slotsCounted := by
  unfold State.attachGrant
  split
  · exact hs
  · split
    · exact hs
    · exact (State.raiseLive_sameSlots _ _).slotsCounted (s.spend_slotsCounted t _ _ hs)
  · split
    · exact hs
    · rename_i x hx
      exact s.vacateSlot_slotsCounted t _ (by rw [hx]; exact Option.some_ne_none x) hs

/-- What ISSUE GRANT has checked when it goes on (R24). -/
theorem State.issueFailure_none {s : State} {t : StationId} {a : IssueGrantParams} (h : s.issueFailure t a = none) :
    (a.preferred ≠ 0 → s.slot t a.preferred = none) ∧ s.belowGrantLimit t = true ∧ s.storeHasRoom = true ∧
      Table.lowestFree s.families 1 ≤ Config.familyCapacity := by
  unfold State.issueFailure at h
  split at h
  · exact nomatch h
  · split at h
    · exact nomatch h
    · split at h
      · exact nomatch h
      · split at h
        · exact nomatch h
        · rename_i hp
          split at h
          · exact nomatch h
          · rename_i hl
            split at h
            · exact nomatch h
            · rename_i hr
              split at h
              · exact nomatch h
              · rename_i hf
                refine ⟨fun hk => ?_, by simpa using hl, by simpa using hr, by omega⟩
                simpa using fun k => hp ⟨hk, k⟩

/-- INSTALL GRANT refuses, or takes the chosen slot for an OPEN family (R27, R28). -/
theorem State.installInto_cases (s : State) (t : StationId) (a : InstallGrantParams) :
    (s.installInto t a).state = s ∨
    ∃ f, s.family a.family = some f ∧ f.state = .opened ∧ (a.preferred ≠ 0 → s.slot t a.preferred = none) ∧
      s.storeHasRoom = true ∧
      (s.installInto t a).state =
        (s.takeSlot t (s.chosenSlot t a.preferred) ⟨.defined, a.family, a.rights, a.budget⟩).raiseLive a.family := by
  unfold State.installInto
  split
  · exact Or.inl rfl
  · split
    · exact Or.inl rfl
    · rename_i f hf
      split
      · exact Or.inl rfl
      · rename_i ho
        split
        · exact Or.inl rfl
        · split
          · exact Or.inl rfl
          · rename_i hp
            split
            · exact Or.inl rfl
            · split
              · exact Or.inl rfl
              · rename_i hr
                refine Or.inr ⟨f, hf, ?_, fun hk => ?_, by simpa using hr, rfl⟩
                · cases h : f.state with
                  | opened => rfl
                  | revoking => exact absurd h ho
                · simpa using fun k => hp ⟨hk, k⟩

theorem State.clearTables_slotsCounted (s : State) (t : StationId) : (s.clearTables t).slotsCounted := by
  have htables : (s.clearTables t).tables = Bank.fill [] := rfl
  have hslots : (s.clearTables t).slotsInUse = Bank.fill 0 := rfl
  refine ⟨fun u => ?_, fun u => ?_, ?_, ?_⟩
  · rw [htables, Bank.get_fill]; rfl
  · rw [htables, hslots, Bank.get_fill, Bank.get_fill]; rfl
  · rw [hslots]
    exact (by decide : 0 = Bank.total (Bank.fill 0))
  · exact Nat.zero_le _

theorem State.reset_slotsCounted : State.reset.slotsCounted := by decide +kernel

theorem slotsCounted_recordInvariant : RecordInvariant State.slotsCounted where
  queues _ _ _ h := h
  frame _ _ _ _ _ _ _ _ _ h := h
  powerOn _ _ := State.reset_slotsCounted
  clearTables s t _ := s.clearTables_slotsCounted t
  placeRecord _ _ _ h := h
  freeReport _ _ _ h := h
  setReport _ _ _ _ h := h
  setDescriptor _ _ _ _ _ _ _ h := h
  releasedRecord s d x c _ h := by
    unfold State.releasedRecord
    cases x.grant with
    | none => exact h
    | some g => exact s.releaseGrant_slotsCounted c d x.target g h
  claimedRecord s t m c _ h := State.attachGrant_slotsCounted _ t _ (s.spend_slotsCounted t _ _ h)
  resolveGrant s t e h := s.resolveGrant_slotsCounted t e h
  freeSlot s t n x hx h := s.freeSlot_slotsCounted t n x (by rw [hx]; exact Option.some_ne_none x) h
  issueGrant s t a h := by
    unfold State.issueGrant
    split
    · exact h
    · rename_i hf
      obtain ⟨hp, -, hr, -⟩ := State.issueFailure_none hf
      exact State.takeSlot_slotsCounted _ t _ _ (s.slot_chosenSlot t a.preferred (h.1 t) hp) hr h
  installInto s t a h := by
    rcases s.installInto_cases t a with e | ⟨f, -, -, hp, hr, e⟩ <;> rw [e]
    · exact h
    · exact (State.raiseLive_sameSlots _ _).slotsCounted
        (s.takeSlot_slotsCounted t _ _ (s.slot_chosenSlot t a.preferred (h.1 t) hp) hr h)
  setFamily _ _ _ _ _ _ h := h
  revokeFamilies _ _ h := h


end Sys2Proof.Machine

namespace Sys2Proof.Proofs

open Sys2Proof.Machine

/-- Settles O53: a slot is written only where one is in use, taken only where it is FREE and the store has room, and
freed only where it is in use, so that each change of a table is a change of its count. -/
theorem stepsKeepSlotsCounted : Obligations.StepsKeepSlotsCounted := fun _ _ hs ht =>
  slotsCounted_recordInvariant.toLedgerInvariant.toCommandInvariant.step (fun _ _ h => h) hs ht

end Sys2Proof.Proofs
end

section
/-! PROOFS. The Message Pool under every command (R47), and the statement O55. -/

namespace Sys2Proof.Machine

/-- The pool is whole, and the two stores of its records are canonical, so that the lowest free record is a free one. -/
def State.poolCounted (s : State) : Prop :=
  s.poolConserved ∧ Table.canonical s.descriptors = true ∧ Table.canonical s.reports = true

/-! ### Changes of a descriptor -/

theorem State.cellsHeld_eq (s : State) : s.cellsHeld = Table.sumOf s.descriptors Descriptor.cells := rfl

theorem State.setDescriptor_poolCounted (s : State) (d : Nat) (x y : Descriptor) (hd : s.descriptor d = some x)
    (hc : y.cells = x.cells) (h : s.poolCounted) : (s.setDescriptor d y).poolCounted := by
  obtain ⟨⟨hcells, hdesc, hrep⟩, hds, hrs⟩ := h
  have hsum : Table.sumOf (Table.put s.descriptors d y) Descriptor.cells + x.cells =
      Table.sumOf s.descriptors Descriptor.cells + y.cells := Table.sumOf_put_old _ _ _ _ _ hds hd
  have hlen : (Table.put s.descriptors d y).length = s.descriptors.length :=
    Table.length_put_old _ _ _ hds (by rw [show Table.find s.descriptors d = some x from hd]; exact Option.some_ne_none x)
  rw [State.cellsHeld_eq] at hcells
  refine ⟨⟨?_, ?_, hrep⟩, Table.canonical_put _ _ _ hds, hrs⟩
  · show s.freeCells + Table.sumOf (Table.put s.descriptors d y) Descriptor.cells = _
    omega
  · show s.freeDescriptors + (Table.put s.descriptors d y).length = _
    omega

/-- Claiming a FREE record and its cells (R47). -/
theorem State.claim_poolCounted (s : State) (x : Descriptor) (hd : s.freeDescriptors ≠ 0) (hc : x.cells ≤ s.freeCells)
    (h : s.poolCounted) :
    State.poolCounted
      { s with
        descriptors := Table.put s.descriptors (Table.lowestFree s.descriptors 0) x
        freeDescriptors := s.freeDescriptors - 1
        freeCells := s.freeCells - x.cells } := by
  obtain ⟨⟨hcells, hdesc, hrep⟩, hds, hrs⟩ := h
  have hfree := Table.find_lowestFree s.descriptors 0 hds
  have hsum := Table.sumOf_put_new s.descriptors _ x Descriptor.cells hfree
  have hlen := Table.length_put_new s.descriptors _ x hfree
  rw [State.cellsHeld_eq] at hcells
  refine ⟨⟨?_, ?_, hrep⟩, Table.canonical_put _ _ _ hds, hrs⟩
  · show s.freeCells - x.cells + Table.sumOf (Table.put s.descriptors _ x) Descriptor.cells = _
    omega
  · show s.freeDescriptors - 1 + (Table.put s.descriptors _ x).length = _
    omega

theorem State.eraseDescriptor_poolCounted (s : State) (d : Nat) (x : Descriptor) (hd : s.descriptor d = some x)
    (h : s.poolCounted) :
    State.poolCounted
      { s with
        descriptors := Table.erase s.descriptors d
        freeDescriptors := s.freeDescriptors + 1
        freeCells := s.freeCells + x.cells } := by
  obtain ⟨⟨hcells, hdesc, hrep⟩, hds, hrs⟩ := h
  have hsum := Table.sumOf_erase s.descriptors d x Descriptor.cells hd
  have hlen := Table.length_erase s.descriptors d
    (by rw [show Table.find s.descriptors d = some x from hd]; exact Option.some_ne_none x)
  rw [State.cellsHeld_eq] at hcells
  refine ⟨⟨?_, ?_, hrep⟩, Table.canonical_erase _ _ hds, hrs⟩
  · show s.freeCells + x.cells + Table.sumOf (Table.erase s.descriptors d) Descriptor.cells = _
    omega
  · show s.freeDescriptors + 1 + (Table.erase s.descriptors d).length = _
    omega

/-! ### Changes of a report record -/

theorem State.placeRecord_poolCounted (s : State) (x : ReportRecord) (hr : s.freeReports ≠ 0) (h : s.poolCounted) :
    State.poolCounted
      { s with
        reports := Table.put s.reports (Table.lowestFree s.reports 0) x, freeReports := s.freeReports - 1 } := by
  obtain ⟨⟨hcells, hdesc, hrep⟩, hds, hrs⟩ := h
  have hlen := Table.length_put_new s.reports _ x (Table.find_lowestFree s.reports 0 hrs)
  refine ⟨⟨hcells, hdesc, ?_⟩, hds, Table.canonical_put _ _ _ hrs⟩
  show s.freeReports - 1 + (Table.put s.reports _ x).length = _
  omega

theorem State.eraseReport_poolCounted (s : State) (r : Nat) (hr : s.report r ≠ none) (h : s.poolCounted) :
    State.poolCounted { s with reports := Table.erase s.reports r, freeReports := s.freeReports + 1 } := by
  obtain ⟨⟨hcells, hdesc, hrep⟩, hds, hrs⟩ := h
  have hlen := Table.length_erase s.reports r hr
  refine ⟨⟨hcells, hdesc, ?_⟩, hds, Table.canonical_erase _ _ hrs⟩
  show s.freeReports + 1 + (Table.erase s.reports r).length = _
  omega

theorem State.setReport_poolCounted (s : State) (r : Nat) (x : ReportRecord) (hr : s.report r ≠ none)
    (h : s.poolCounted) : (s.setReport r x).poolCounted := by
  obtain ⟨⟨hcells, hdesc, hrep⟩, hds, hrs⟩ := h
  have hlen := Table.length_put_old s.reports r x hrs hr
  refine ⟨⟨hcells, hdesc, ?_⟩, hds, Table.canonical_put _ _ _ hrs⟩
  show s.freeReports + (Table.put s.reports r x).length = _
  omega

/-! ### The operations made of them -/

theorem State.placeReport_freeReports (s : State) (t : StationId) (q : Queue) (c : ReportContent) :
    (s.placeReport t q c).freeReports = s.freeReports - 1 := by
  unfold State.placeReport
  dsimp only
  split <;> rfl

/-- Two states that agree on the pool are whole together. -/
theorem State.poolCounted_of_eq {s t : State} (h1 : t.descriptors = s.descriptors)
    (h2 : t.freeDescriptors = s.freeDescriptors) (h3 : t.freeCells = s.freeCells) (h4 : t.reports = s.reports)
    (h5 : t.freeReports = s.freeReports) (h : s.poolCounted) : t.poolCounted := by
  unfold State.poolCounted State.poolConserved State.cellsHeld at h ⊢
  rw [h1, h2, h3, h4, h5]
  exact h

theorem State.callReport_poolCounted (s : State) (t : StationId) (c : ReportContent) (h : s.poolCounted) :
    (s.callReport t c).poolCounted := by
  rcases s.callReport_cases t c with ⟨-, e⟩ | ⟨q, -, -, hc, e⟩ | ⟨-, -, e⟩ <;> rw [e]
  · exact h
  · have hr : s.freeReports ≠ 0 := by
      simp only [State.canPlace, Bool.and_eq_true, bne_iff_ne] at hc
      exact hc.1
    exact State.poolCounted_of_eq (by simp) (by simp) (by simp) (s.placeReport_reports t q c)
      (s.placeReport_freeReports t q c) (s.placeRecord_poolCounted _ hr h)
  · exact h

theorem poolCounted_grantFree : GrantFree State.poolCounted where
  grants _ _ _ _ _ h := h
  callReport := State.callReport_poolCounted

/-- The descriptors are as before. -/
theorem sameDescriptors_grantFree (l : Table Descriptor) : GrantFree (fun s => s.descriptors = l) where
  grants _ _ _ _ _ h := h
  callReport s t c h := (s.callReport_descriptors t c).trans h

theorem State.resolveGrant_poolCounted (s : State) (t : StationId) (e : EntryRef) (h : s.poolCounted) :
    (s.resolveGrant t e).poolCounted := by
  cases e with
  | report r => exact h
  | message d =>
    unfold State.resolveGrant
    dsimp only
    cases hd : s.descriptor d with
    | none => exact h
    | some x =>
      dsimp only
      cases hg : x.grant with
      | none => exact h
      | some g =>
        dsimp only
        split
        · have hkeep : (s.reserve t d g).1.descriptors = s.descriptors :=
            (sameDescriptors_grantFree s.descriptors).reserve t d g rfl
          have hset := State.setDescriptor_poolCounted _ d x
            { x with grant := some { g with state := (s.reserve t d g).2 } }
            (by unfold State.descriptor; rw [hkeep]; exact hd) rfl (poolCounted_grantFree.reserve t d g h)
          split
          · exact poolCounted_grantFree.lowerLive _ hset
          · exact hset
        · exact h

theorem State.releasedRecord_poolCounted (s : State) (d : Nat) (x : Descriptor) (c : FreeCause)
    (hd : s.descriptor d = some x) (h : s.poolCounted) : (s.releasedRecord d x c).poolCounted := by
  unfold State.releasedRecord
  cases x.grant with
  | none => exact s.eraseDescriptor_poolCounted d x hd h
  | some g =>
    refine State.eraseDescriptor_poolCounted _ d x ?_ (poolCounted_grantFree.releaseGrant c d x.target g h)
    have hkeep : (s.releaseGrant c d x.target g).descriptors = s.descriptors :=
      (sameDescriptors_grantFree s.descriptors).releaseGrant c d x.target g rfl
    unfold State.descriptor
    rw [hkeep]
    exact hd

/-! ### Admissions -/

/-- What an admission reads of the slots and families, it changes; the records of the pool it does not (R76). -/
def State.SamePool (s t : State) : Prop :=
  t.descriptors = s.descriptors ∧ t.freeDescriptors = s.freeDescriptors ∧ t.freeCells = s.freeCells ∧
    t.reports = s.reports ∧ t.freeReports = s.freeReports

theorem State.spend_samePool (s : State) (t : StationId) (n b : Nat) : s.SamePool (s.spend t n b) := by
  unfold State.spend
  split <;> exact ⟨rfl, rfl, rfl, rfl, rfl⟩

theorem State.raiseLive_samePool (s : State) (f : Nat) : s.SamePool (s.raiseLive f) := by
  unfold State.raiseLive
  split <;> exact ⟨rfl, rfl, rfl, rfl, rfl⟩

theorem State.SamePool.trans {s t u : State} (h : s.SamePool t) (k : t.SamePool u) : s.SamePool u := by
  obtain ⟨h1, h2, h3, h4, h5⟩ := h
  obtain ⟨k1, k2, k3, k4, k5⟩ := k
  exact ⟨k1.trans h1, k2.trans h2, k3.trans h3, k4.trans h4, k5.trans h5⟩

theorem State.attachGrant_samePool (s : State) (t : StationId) (a : Option Attach) :
    s.SamePool (s.attachGrant t a).1 := by
  unfold State.attachGrant
  split
  · exact ⟨rfl, rfl, rfl, rfl, rfl⟩
  · split
    · exact ⟨rfl, rfl, rfl, rfl, rfl⟩
    · exact (s.spend_samePool t _ _).trans (State.raiseLive_samePool _ _)
  · split <;> exact ⟨rfl, rfl, rfl, rfl, rfl⟩

theorem State.SamePool.poolCounted {s t : State} (h : s.SamePool t) (hs : s.poolCounted) : t.poolCounted := by
  obtain ⟨h1, h2, h3, h4, h5⟩ := h
  exact State.poolCounted_of_eq h1 h2 h3 h4 h5 hs

/-- What an accepted MESSAGE frame has been checked for (R65 to R75). -/
theorem State.admissionChecks_ok {s : State} {t : StationId} {m : MessageRequest} {c : AdmissionContext}
    (h : s.admissionChecks t m = .ok c) :
    s.isEnabled t = true ∧ s.definedSlot t m.slot = some c.slot ∧ s.family c.slot.family = some c.family ∧
      c.family.state = .opened ∧ s.queue c.family.issuer c.family.target = some c.queue ∧ c.queue.state = .opened ∧
      c.slot.budget ≠ some 0 ∧ m.attach.bind (s.attachFailure t m.slot) = none ∧
      s.roomFailure c.family.issuer c.queue (cellsOf m.payload.length) = none := by
  unfold State.admissionChecks at h
  split at h
  · exact nomatch h
  · rename_i he
    split at h
    · exact nomatch h
    · split at h
      · exact nomatch h
      · rename_i x hx
        split at h
        · exact nomatch h
        · split at h
          · exact nomatch h
          · rename_i f hf
            split at h
            · exact nomatch h
            · rename_i q hq
              split at h
              · exact nomatch h
              · rename_i hb
                split at h
                · exact nomatch h
                · rename_i ha
                  split at h
                  · exact nomatch h
                  · rename_i hr
                    cases h
                    obtain ⟨hf, hfo⟩ := Option.filter_eq_some_iff.1 hf
                    obtain ⟨hq, hqo⟩ := Option.filter_eq_some_iff.1 hq
                    exact ⟨by simpa using he, hx, hf, eq_of_beq hfo, hq, eq_of_beq hqo, hb, ha, hr⟩

/-- Checks 10 to 12 when they pass (R73 to R75). -/
theorem State.roomFailure_none {s : State} {t : StationId} {q : Queue} {cells : Nat}
    (h : s.roomFailure t q cells = none) :
    q.heldMessages < q.depth ∧ Bank.get s.heldCells t + cells ≤ (s.station t).cellQuota ∧ s.freeDescriptors ≠ 0 ∧
      cells ≤ s.freeCells := by
  unfold State.roomFailure at h
  split at h
  · exact nomatch h
  · split at h
    · exact nomatch h
    · split at h
      · exact nomatch h
      · omega

theorem State.claimedRecord_poolCounted (s : State) (t : StationId) (m : MessageRequest) (c : AdmissionContext)
    (hc : s.admissionChecks t m = .ok c) (h : s.poolCounted) : (s.claimedRecord t m c).poolCounted := by
  obtain ⟨-, -, -, -, -, -, -, -, hroom⟩ := State.admissionChecks_ok hc
  obtain ⟨-, -, hd, hcells⟩ := State.roomFailure_none hroom
  have hsame := (s.spend_samePool t m.slot 1).trans (State.attachGrant_samePool _ t m.attach)
  obtain ⟨-, h2, h3, -, -⟩ := id hsame
  exact State.claim_poolCounted _ _ (h2 ▸ hd) (h3 ▸ hcells) (hsame.poolCounted h)

theorem State.reset_poolCounted : State.reset.poolCounted := by
  unfold State.poolCounted
  decide +kernel

theorem State.takeSlot_raiseLive_samePool (s : State) (t : StationId) (n : Nat) (x : Slot) (f : Nat) :
    s.SamePool ((s.takeSlot t n x).raiseLive f) := State.raiseLive_samePool _ f

theorem poolCounted_recordInvariant : RecordInvariant State.poolCounted where
  queues _ _ _ h := h
  frame _ _ _ _ _ _ _ _ _ h := h
  powerOn _ _ := State.reset_poolCounted
  clearTables _ _ _ := State.reset_poolCounted
  placeRecord := State.placeRecord_poolCounted
  freeReport := State.eraseReport_poolCounted
  setReport := State.setReport_poolCounted
  setDescriptor s d x y hd hc _ := s.setDescriptor_poolCounted d x y hd hc
  releasedRecord := State.releasedRecord_poolCounted
  claimedRecord := State.claimedRecord_poolCounted
  resolveGrant := State.resolveGrant_poolCounted
  freeSlot _ t n x _ h := poolCounted_grantFree.freeSlot t n x h
  issueGrant s t a h := by
    unfold State.issueGrant
    split <;> exact h
  installInto s t a h := by
    rcases s.installInto_cases t a with e | ⟨f, -, -, -, -, e⟩ <;> rw [e]
    · exact h
    · exact (s.takeSlot_raiseLive_samePool t _ _ _).poolCounted h
  setFamily _ _ _ _ _ _ h := h
  revokeFamilies _ _ h := h

end Sys2Proof.Machine

namespace Sys2Proof.Proofs

open Sys2Proof.Machine

/-- Settles O55: the stores stay canonical under every command, and beside that the pool stays whole. -/
theorem stepsKeepThePoolWhole : Obligations.StepsKeepThePoolWhole := by
  rintro s t ⟨hcanon, hpool⟩ ht
  obtain ⟨-, -, -, hds, hrs⟩ := id hcanon
  refine ⟨canonical_recordInvariant.toLedgerInvariant.toCommandInvariant.step (fun _ _ h => h) hcanon ht, ?_⟩
  exact (poolCounted_recordInvariant.toLedgerInvariant.toCommandInvariant.step (fun _ _ h => h) ⟨hpool, hds, hrs⟩ ht).1

end Sys2Proof.Proofs
end

section
/-! PROOFS. The live counts under every command (R15 to R20), and the statement O54. -/

namespace Sys2Proof.Machine

/-- The live count of family f; 0 of a FREE one. -/
def State.liveOf (s : State) (f : Nat) : Nat := ((s.family f).map Family.live).getD 0

/-- Every live count is the number of copies, and no family that is not FREE has none. -/
def State.liveBalanced (s : State) : Prop :=
  (∀ f, s.liveOf f = s.copies f) ∧ ∀ f x, s.family f = some x → 1 ≤ x.live

theorem State.liveCounted_iff (s : State) : s.liveCounted ↔ s.liveBalanced := by
  unfold State.liveCounted State.liveBalanced State.liveOf
  constructor
  · intro h
    refine ⟨fun f => ?_, fun f x hx => ?_⟩
    · have hf := h f
      cases hx : s.family f with
      | none => rw [hx] at hf; exact hf.symm
      | some x => rw [hx] at hf; exact hf.2
    · have hf := h f
      rw [hx] at hf
      exact hf.1
  · rintro ⟨hl, hp⟩ f
    have hf := hl f
    cases hx : s.family f with
    | none => rw [hx] at hf; exact hf.symm
    | some x => rw [hx] at hf; exact ⟨hp f x hx, hf⟩

/-! ### The copies under the changes of slots and descriptors -/

/-- One for a match, nothing otherwise. -/
def oneIf (b : Bool) : Nat := if b then 1 else 0

theorem oneIf_false : oneIf false = 0 := rfl

theorem State.copies_eq (s : State) (f : Nat) :
    s.copies f = (∑ t, slotsOfFamily f (Bank.get s.tables t)) +
      Table.sumOf s.descriptors (fun d => oneIf (d.carriesInTransit f)) := by
  unfold State.copies
  rw [Table.countRecords_eq_sumOf, Fin.sum_univ_def]
  rfl

theorem slotsOfFamily_eq (f : Nat) (t : Table Slot) :
    slotsOfFamily f t = Table.sumOf t (fun x => oneIf (x.family == f)) := Table.countRecords_eq_sumOf t _

theorem State.copies_of_eq {s t : State} (h1 : t.tables = s.tables) (h2 : t.descriptors = s.descriptors) (f : Nat) :
    t.copies f = s.copies f := by
  unfold State.copies
  rw [h1, h2]

theorem State.copies_writeSlot (s : State) (t : StationId) (n : Nat) (x y : Slot) (hx : s.slot t n = some x)
    (hy : y.family = x.family) (hc : s.storesCanonical) (f : Nat) : (s.writeSlot t n y).copies f = s.copies f := by
  have hsum := Bank.sum_set s.tables t (Table.put (Bank.get s.tables t) n y) (slotsOfFamily f)
  have hput := Table.sumOf_put_old (Bank.get s.tables t) n y x (fun z => oneIf (z.family == f)) (hc.1 t) hx
  rw [hy] at hput
  rw [slotsOfFamily_eq f (Table.put _ _ _), slotsOfFamily_eq f (Bank.get s.tables t)] at hsum
  rw [State.copies_eq, State.copies_eq, State.writeSlot_tables]
  show _ + Table.sumOf s.descriptors _ = _
  omega

theorem State.copies_takeSlot (s : State) (t : StationId) (n : Nat) (x : Slot) (hx : s.slot t n = none) (f : Nat) :
    (s.takeSlot t n x).copies f = s.copies f + oneIf (x.family == f) := by
  have hsum := Bank.sum_set s.tables t (Table.put (Bank.get s.tables t) n x) (slotsOfFamily f)
  have hput := Table.sumOf_put_new (Bank.get s.tables t) n x (fun z => oneIf (z.family == f)) hx
  rw [slotsOfFamily_eq f (Table.put _ _ _), slotsOfFamily_eq f (Bank.get s.tables t)] at hsum
  rw [State.copies_eq, State.copies_eq, State.takeSlot_tables]
  show _ + Table.sumOf s.descriptors _ = _
  omega

theorem State.copies_vacateSlot (s : State) (t : StationId) (n : Nat) (x : Slot) (hx : s.slot t n = some x) (f : Nat) :
    (s.vacateSlot t n).copies f + oneIf (x.family == f) = s.copies f := by
  have hsum := Bank.sum_set s.tables t (Table.erase (Bank.get s.tables t) n) (slotsOfFamily f)
  have herase := Table.sumOf_erase (Bank.get s.tables t) n x (fun z => oneIf (z.family == f)) hx
  rw [slotsOfFamily_eq f (Table.erase _ _), slotsOfFamily_eq f (Bank.get s.tables t)] at hsum
  rw [State.copies_eq, State.copies_eq, State.vacateSlot_tables]
  show _ + Table.sumOf s.descriptors _ + _ = _
  omega

/-- A family with a slot has a copy. -/
theorem State.copies_pos (s : State) (t : StationId) (n : Nat) (x : Slot) (hx : s.slot t n = some x) :
    1 ≤ s.copies x.family := by
  have h := s.copies_vacateSlot t n x hx x.family
  rw [beq_self_eq_true] at h
  exact h ▸ Nat.le_add_left 1 _

theorem State.copies_setDescriptor (s : State) (d : Nat) (x y : Descriptor) (hd : s.descriptor d = some x)
    (hc : s.storesCanonical) (f : Nat) :
    (s.setDescriptor d y).copies f + oneIf (x.carriesInTransit f) = s.copies f + oneIf (y.carriesInTransit f) := by
  have hput := Table.sumOf_put_old s.descriptors d y x (fun z => oneIf (z.carriesInTransit f)) hc.2.2.2.1 hd
  rw [State.copies_eq, State.copies_eq, State.setDescriptor_descriptors]
  show (∑ t, slotsOfFamily f (Bank.get s.tables t)) + _ + _ = _
  omega

theorem State.copies_claim (s : State) (x : Descriptor) (fd fc : Nat) (hc : s.storesCanonical) (f : Nat) :
    State.copies
      { s with
        descriptors := Table.put s.descriptors (Table.lowestFree s.descriptors 0) x
        freeDescriptors := fd, freeCells := fc } f = s.copies f + oneIf (x.carriesInTransit f) := by
  have hput := Table.sumOf_put_new s.descriptors _ x (fun z => oneIf (z.carriesInTransit f))
    (Table.find_lowestFree s.descriptors 0 hc.2.2.2.1)
  rw [State.copies_eq, State.copies_eq]
  dsimp only
  omega

theorem State.copies_eraseDescriptor (s : State) (d : Nat) (x : Descriptor) (fd fc : Nat)
    (hd : s.descriptor d = some x) (f : Nat) :
    State.copies
      { s with descriptors := Table.erase s.descriptors d, freeDescriptors := fd, freeCells := fc } f +
      oneIf (x.carriesInTransit f) = s.copies f := by
  have herase := Table.sumOf_erase s.descriptors d x (fun z => oneIf (z.carriesInTransit f)) hd
  rw [State.copies_eq, State.copies_eq]
  dsimp only
  omega

/-! ### The live counts under the changes of families -/

theorem State.closeFamily_families (s : State) (f : Nat) (x : Family) :
    (s.closeFamily f x).families = Table.erase s.families f := by
  unfold State.closeFamily
  dsimp only
  split <;> simp

theorem State.lowerLive_copies (s : State) (f g : Nat) : (s.lowerLive f).copies g = s.copies g :=
  State.copies_of_eq (s.lowerLive_sameSlots f).1 ((sameDescriptors_grantFree s.descriptors).lowerLive f rfl) g

/-- Lowering a live count takes one from it, down to 0 (R18, R19). -/
theorem State.liveOf_lowerLive (s : State) (f g : Nat) (hc : s.storesCanonical) :
    (s.lowerLive f).liveOf g = s.liveOf g - oneIf (f == g) := by
  unfold State.liveOf
  rcases s.lowerLive_cases f with ⟨hx, e⟩ | ⟨x, hx, hl, e⟩ | ⟨x, hx, hl, e⟩ <;> rw [e]
  · by_cases h : f = g
    · subst h; rw [hx]; exact (Nat.zero_sub _).symm
    · rw [beq_false_of_ne h]; rfl
  · unfold State.family
    rw [State.closeFamily_families, Table.find_erase _ _ _ hc.2.2.1]
    by_cases h : f = g
    · subst h
      rw [if_pos rfl, beq_self_eq_true, show Table.find s.families f = some x from hx]
      exact (Nat.sub_eq_zero_of_le hl).symm
    · rw [if_neg (Ne.symm h), beq_false_of_ne h]; rfl
  · rw [State.family_setFamily]
    by_cases h : f = g
    · subst h; rw [if_pos rfl, beq_self_eq_true, hx]; rfl
    · rw [if_neg (Ne.symm h), beq_false_of_ne h]; rfl

theorem State.lowerLive_pos (s : State) (f : Nat) (hc : s.storesCanonical)
    (h : ∀ g x, s.family g = some x → 1 ≤ x.live) : ∀ g x, (s.lowerLive f).family g = some x → 1 ≤ x.live := by
  intro g y
  rcases s.lowerLive_cases f with ⟨-, e⟩ | ⟨x, -, -, e⟩ | ⟨x, -, hl, e⟩ <;> rw [e]
  · exact h g y
  · unfold State.family
    rw [State.closeFamily_families, Table.find_erase _ _ _ hc.2.2.1]
    split
    · exact fun k => nomatch k
    · exact h g y
  · rw [State.family_setFamily]
    split
    · intro k
      cases k
      exact Nat.le_sub_one_of_lt hl
    · exact h g y

/-- Raising the live count of a family that is not FREE adds one to it (R16). -/
theorem State.liveOf_raiseLive (s : State) (f g : Nat) (x : Family) (hx : s.family f = some x) :
    (s.raiseLive f).liveOf g = s.liveOf g + oneIf (f == g) := by
  unfold State.liveOf State.raiseLive
  rw [hx]
  dsimp only
  rw [State.family_setFamily]
  by_cases h : f = g
  · subst h; rw [if_pos rfl, beq_self_eq_true, hx]; rfl
  · rw [if_neg (Ne.symm h), beq_false_of_ne h]; rfl

theorem State.raiseLive_pos (s : State) (f : Nat) (h : ∀ g x, s.family g = some x → 1 ≤ x.live) :
    ∀ g x, (s.raiseLive f).family g = some x → 1 ≤ x.live := by
  intro g y
  unfold State.raiseLive
  split
  · exact h g y
  · rw [State.family_setFamily]
    split
    · intro k
      cases k
      exact Nat.le_add_left 1 _
    · exact h g y

theorem State.raiseLive_copies (s : State) (f g : Nat) : (s.raiseLive f).copies g = s.copies g :=
  State.copies_of_eq (s.raiseLive_sameSlots f).1 (State.raiseLive_samePool s f).1 g

theorem State.liveOf_setFamily (s : State) (f g : Nat) (y : Family) :
    (s.setFamily f y).liveOf g = if g = f then y.live else s.liveOf g := by
  unfold State.liveOf
  rw [State.family_setFamily]
  split <;> rfl

/-! ### The balance -/

/-- Copies and live counts that have changed alike still balance. -/
theorem State.liveBalanced_of_eq {s t : State} (h1 : ∀ f, t.copies f = s.copies f) (h2 : t.families = s.families)
    (h : s.liveBalanced) : t.liveBalanced := by
  unfold State.liveBalanced State.liveOf State.family at h ⊢
  rw [h2]
  exact ⟨fun f => (h.1 f).trans (h1 f).symm, h.2⟩

theorem State.freeSlot_liveBalanced (s : State) (t : StationId) (n : Nat) (x : Slot) (hx : s.slot t n = some x)
    (hc : s.storesCanonical) (h : s.liveBalanced) : (s.freeSlot t n x).liveBalanced := by
  have hcv := s.vacateSlot_storesCanonical t n hc
  refine ⟨fun f => ?_, State.lowerLive_pos _ _ hcv h.2⟩
  have hcopies := s.copies_vacateSlot t n x hx f
  have hlive : (s.vacateSlot t n).liveOf f = s.copies f := h.1 f
  show ((s.vacateSlot t n).lowerLive x.family).liveOf f = ((s.vacateSlot t n).lowerLive x.family).copies f
  rw [State.liveOf_lowerLive _ _ _ hcv, State.lowerLive_copies]
  omega

theorem State.writeSlot_liveBalanced (s : State) (t : StationId) (n : Nat) (x y : Slot) (hx : s.slot t n = some x)
    (hy : y.family = x.family) (hc : s.storesCanonical) (h : s.liveBalanced) : (s.writeSlot t n y).liveBalanced :=
  State.liveBalanced_of_eq (s.copies_writeSlot t n x y hx hy hc) rfl h

/-- An attached grant counts as a copy of its family while it is IN_TRANSIT (R15, R44). -/
theorem Descriptor.carriesInTransit_some {x : Descriptor} {g : CarriedGrant} (hg : x.grant = some g) (f : Nat) :
    x.carriesInTransit f = (g.family == f && g.state == .inTransit) := by
  rw [Descriptor.carriesInTransit, hg]; rfl

theorem Descriptor.carriesInTransit_none {x : Descriptor} (hg : x.grant = none) (f : Nat) :
    x.carriesInTransit f = false := by
  rw [Descriptor.carriesInTransit, hg]; rfl

/-- Releasing a carried grant lowers the live count of an IN_TRANSIT copy, whose descriptor goes with it; a RESERVED one
is a slot and stays in balance by itself (R46). -/
theorem State.releaseGrant_balance (s : State) (c : FreeCause) (d : Nat) (t : StationId) (g : CarriedGrant)
    (hc : s.storesCanonical) (h : s.liveBalanced) :
    (∀ f, (s.releaseGrant c d t g).liveOf f =
      (s.releaseGrant c d t g).copies f - oneIf (g.family == f && g.state == .inTransit)) ∧
    ∀ f x, (s.releaseGrant c d t g).family f = some x → 1 ≤ x.live := by
  have hkeep : ∀ {r : State} {b : Bool}, r.liveBalanced →
      (∀ f, r.liveOf f = r.copies f - oneIf (g.family == f && false)) ∧ ∀ f x, r.family f = some x → 1 ≤ x.live := by
    intro r b hr
    refine ⟨fun f => ?_, hr.2⟩
    rw [Bool.and_false]
    exact hr.1 f
  unfold State.releaseGrant
  cases hg : g.state with
  | inTransit =>
    refine ⟨fun f => ?_, s.lowerLive_pos _ hc h.2⟩
    dsimp only
    rw [s.liveOf_lowerLive _ _ hc, s.lowerLive_copies, h.1 f, beq_self_eq_true, Bool.and_true]
  | void r => exact hkeep (b := false) h
  | reserved n =>
    refine hkeep (b := false) ?_
    cases c with
    | acknowledged =>
      dsimp only
      rcases s.definitionClaim_cases t n d with ⟨-, e⟩ | ⟨x, hx, -, e⟩ | ⟨x, hx, -, e⟩ <;> rw [e]
      · exact h
      · exact s.writeSlot_liveBalanced t n x _ (State.slot_of_reservedSlot hx) rfl hc h
      · exact s.freeSlot_liveBalanced t n x (State.slot_of_reservedSlot hx) hc h
    | withdrawn =>
      dsimp only
      unfold State.freeReserved
      split
      · exact h
      · rename_i x hx
        exact s.freeSlot_liveBalanced t n x (State.slot_of_reservedSlot hx) hc h

theorem State.releasedRecord_liveBalanced (s : State) (d : Nat) (x : Descriptor) (c : FreeCause)
    (hd : s.descriptor d = some x) (hc : s.storesCanonical) (h : s.liveBalanced) :
    (s.releasedRecord d x c).liveBalanced := by
  unfold State.releasedRecord
  cases hg : x.grant with
  | none =>
    refine ⟨fun f => ?_, h.2⟩
    have he := s.copies_eraseDescriptor d x (s.freeDescriptors + 1) (s.freeCells + x.cells) hd f
    rw [Descriptor.carriesInTransit_none hg] at he
    exact (h.1 f).trans he.symm
  | some g =>
    obtain ⟨hlive, hpos⟩ := s.releaseGrant_balance c d x.target g hc h
    have hkeep : (s.releaseGrant c d x.target g).descriptors = s.descriptors :=
      (sameDescriptors_grantFree s.descriptors).releaseGrant c d x.target g rfl
    have hd' : (s.releaseGrant c d x.target g).descriptor d = some x := by
      unfold State.descriptor
      rw [hkeep]
      exact hd
    refine ⟨fun f => ?_, hpos⟩
    have he := State.copies_eraseDescriptor _ d x ((s.releaseGrant c d x.target g).freeDescriptors + 1)
      ((s.releaseGrant c d x.target g).freeCells + x.cells) hd' f
    rw [Descriptor.carriesInTransit_some hg] at he
    refine (hlive f).trans ?_
    dsimp only
    omega

theorem State.resolveGrant_liveBalanced (s : State) (t : StationId) (e : EntryRef) (hc : s.storesCanonical)
    (h : s.liveBalanced) : (s.resolveGrant t e).liveBalanced := by
  cases e with
  | report r => exact h
  | message d =>
    unfold State.resolveGrant
    dsimp only
    cases hd : s.descriptor d with
    | none => exact h
    | some x =>
      dsimp only
      cases hg : x.grant with
      | none => exact h
      | some g =>
        dsimp only
        split
        · rename_i hin
          have hst : g.state = .inTransit := eq_of_beq (Bool.and_eq_true _ _ ▸ hin).2
          have hcarry : ∀ f, x.carriesInTransit f = (g.family == f) := fun f => by
            rw [Descriptor.carriesInTransit_some hg, hst, beq_self_eq_true, Bool.and_true]
          have hleave : ∀ (y : CarriedState) (f : Nat), y ≠ .inTransit →
              Descriptor.carriesInTransit f { x with grant := some { g with state := y } } = false := by
            intro y f hy
            rw [Descriptor.carriesInTransit_some rfl, beq_false_of_ne hy, Bool.and_false]
          rcases s.reserve_cases t d g with ⟨r, er⟩ | ⟨-, -, -, er⟩ <;> rw [er]
          · dsimp only
            have hcs := s.setDescriptor_storesCanonical d { x with grant := some { g with state := .void r } } hc
            refine ⟨fun f => ?_, State.lowerLive_pos _ _ hcs h.2⟩
            have hset := s.copies_setDescriptor d x { x with grant := some { g with state := .void r } } hd hc f
            rw [hcarry, hleave (.void r) f (fun k => nomatch k)] at hset
            have hlive : (s.setDescriptor d { x with grant := some { g with state := .void r } }).liveOf f =
              s.copies f := h.1 f
            rw [State.liveOf_lowerLive _ _ _ hcs, State.lowerLive_copies, hlive]
            rw [oneIf_false] at hset
            omega
          · dsimp only
            have hfree : s.slot t (s.lowestFreeSlot t) = none := Table.find_lowestFree _ _ (hc.1 t)
            refine ⟨fun f => ?_, h.2⟩
            have htake := s.copies_takeSlot t _ ⟨.reserved d, g.family, g.rights, g.budget⟩ hfree f
            have hset := State.copies_setDescriptor (s.takeSlot t (s.lowestFreeSlot t)
              ⟨.reserved d, g.family, g.rights, g.budget⟩) d x
              { x with grant := some { g with state := .reserved (s.lowestFreeSlot t) } } hd
              (s.takeSlot_storesCanonical t _ _ hc) f
            rw [hcarry, hleave (.reserved (s.lowestFreeSlot t)) f (fun k => nomatch k), htake] at hset
            refine (h.1 f).trans ?_
            rw [oneIf_false] at hset
            dsimp only at hset ⊢
            omega
        · exact h

/-! ### Admissions -/

theorem State.spend_liveBalanced (s : State) (t : StationId) (n b : Nat) (hc : s.storesCanonical)
    (h : s.liveBalanced) : (s.spend t n b).liveBalanced := by
  unfold State.spend
  split
  · exact h
  · rename_i x hx
    exact s.writeSlot_liveBalanced t n x _ hx rfl hc h

theorem State.family_of_slot {s : State} {t : StationId} {n : Nat} {x : Slot} (hx : s.slot t n = some x)
    (h : s.liveBalanced) : ∃ y, s.family x.family = some y := by
  have hlive := h.1 x.family
  have hpos := s.copies_pos t n x hx
  unfold State.liveOf at hlive
  cases hf : s.family x.family with
  | none => rw [hf] at hlive; exact absurd hlive (by simp; omega)
  | some y => exact ⟨y, rfl⟩

theorem State.spend_families (s : State) (t : StationId) (n b : Nat) : (s.spend t n b).families = s.families := by
  unfold State.spend
  split <;> rfl

/-- The grant that an admission sends on its way is one copy more than the live counts know until its descriptor is
listed (R76, R77). -/
theorem State.attachGrant_balance (s : State) (t : StationId) (a : Option Attach) (hc : s.storesCanonical)
    (h : s.liveBalanced) :
    (∀ f, (s.attachGrant t a).1.liveOf f = (s.attachGrant t a).1.copies f +
      oneIf ((s.attachGrant t a).2.any (fun g => g.family == f && g.state == .inTransit))) ∧
    ∀ f x, (s.attachGrant t a).1.family f = some x → 1 ≤ x.live := by
  unfold State.attachGrant
  split
  · exact ⟨fun f => h.1 f, h.2⟩
  · rename_i n rights budget
    split
    · exact ⟨fun f => h.1 f, h.2⟩
    · rename_i x hx
      obtain ⟨y, hy⟩ := State.family_of_slot hx h
      have hs := s.spend_liveBalanced t n (budget.getD 0) hc h
      have hy' : (s.spend t n (budget.getD 0)).family x.family = some y := by
        unfold State.family
        rw [State.spend_families]
        exact hy
      refine ⟨fun f => ?_, State.raiseLive_pos _ _ hs.2⟩
      dsimp only
      rw [State.liveOf_raiseLive _ _ _ y hy', State.raiseLive_copies, hs.1 f]
      simp
  · rename_i n
    split
    · exact ⟨fun f => h.1 f, h.2⟩
    · rename_i x hx
      refine ⟨fun f => ?_, h.2⟩
      have hv := s.copies_vacateSlot t n x hx f
      refine (h.1 f).trans (hv.symm.trans ?_)
      simp

theorem State.claimedRecord_liveBalanced (s : State) (t : StationId) (m : MessageRequest) (c : AdmissionContext)
    (hc : s.storesCanonical) (h : s.liveBalanced) : (s.claimedRecord t m c).liveBalanced := by
  have hcs := s.spend_storesCanonical t m.slot 1 hc
  obtain ⟨hlive, hpos⟩ := State.attachGrant_balance _ t m.attach hcs (s.spend_liveBalanced t m.slot 1 hc h)
  refine ⟨fun f => (hlive f).trans ?_, hpos⟩
  unfold State.claimedRecord
  dsimp only
  rw [State.copies_claim _ _ _ _ (State.attachGrant_storesCanonical _ t m.attach hcs) f]
  rfl

/-! ### The two requests that make a copy -/

theorem State.issueGrant_liveBalanced (s : State) (t : StationId) (a : IssueGrantParams) (hc : s.storesCanonical)
    (h : s.liveBalanced) : (s.issueGrant t a).state.liveBalanced := by
  unfold State.issueGrant
  split
  · exact h
  · rename_i hf
    obtain ⟨hp, -, -, -⟩ := State.issueFailure_none hf
    have hslot : ∀ y, (s.setFamily (Table.lowestFree s.families 1) y).slot t (s.chosenSlot t a.preferred) = none :=
      fun _ => s.slot_chosenSlot t a.preferred (hc.1 t) hp
    have hnone : s.family (Table.lowestFree s.families 1) = none := Table.find_lowestFree _ _ hc.2.2.1
    dsimp only
    constructor
    · intro f
      rw [State.copies_takeSlot _ t _ _ (hslot _) f]
      show State.liveOf (s.setFamily _ _) f = State.copies s f + _
      rw [State.liveOf_setFamily, ← h.1 f]
      by_cases e : f = Table.lowestFree s.families 1
      · rw [if_pos e, e, beq_self_eq_true]
        show 1 = State.liveOf s _ + 1
        rw [State.liveOf, hnone]
        rfl
      · rw [if_neg e, beq_false_of_ne (Ne.symm e)]
        rfl
    · intro f x hx
      rw [show State.family (State.takeSlot _ _ _ _) f = State.family (s.setFamily _ _) f from rfl,
        State.family_setFamily] at hx
      split at hx
      · cases hx; exact le_refl 1
      · exact h.2 f x hx

theorem State.installInto_liveBalanced (s : State) (t : StationId) (a : InstallGrantParams) (hc : s.storesCanonical)
    (h : s.liveBalanced) : (s.installInto t a).state.liveBalanced := by
  rcases s.installInto_cases t a with e | ⟨y, hy, -, hp, -, e⟩ <;> rw [e]
  · exact h
  · have hslot := s.slot_chosenSlot t a.preferred (hc.1 t) hp
    have hy' : ∀ n x, (s.takeSlot t n x).family a.family = some y := fun _ _ => hy
    refine ⟨fun f => ?_, State.raiseLive_pos _ _ h.2⟩
    rw [State.liveOf_raiseLive _ _ _ y (hy' _ _), State.raiseLive_copies, State.copies_takeSlot _ t _ _ hslot f]
    exact congrArg (· + _) (h.1 f)

/-! ### Every command -/

theorem State.revokeFamilies_liveBalanced (s : State) (test : Family → Bool) (h : s.liveBalanced) :
    (s.revokeFamilies test).liveBalanced := by
  have hlive : ∀ x : Family,
      (if x.state == .opened && test x then { x with state := .revoking } else x).live = x.live := by
    intro x
    split <;> rfl
  constructor
  · intro f
    refine Eq.trans ?_ (h.1 f)
    unfold State.liveOf
    rw [State.family_revokeFamilies]
    cases s.family f with
    | none => rfl
    | some x => exact hlive x
  · intro f x hx
    rw [State.family_revokeFamilies] at hx
    obtain ⟨y, hy, rfl⟩ := Option.map_eq_some_iff.1 hx
    rw [hlive]
    exact h.2 f y hy

theorem State.setFamily_liveBalanced (s : State) (f : Nat) (x y : Family) (hx : s.family f = some x)
    (hy : y.live = x.live) (h : s.liveBalanced) : (s.setFamily f y).liveBalanced := by
  constructor
  · intro g
    rw [State.liveOf_setFamily]
    refine Eq.trans ?_ (h.1 g)
    split
    · rename_i e
      rw [e, State.liveOf, hx]
      exact hy
    · rfl
  · intro g z hz
    rw [State.family_setFamily] at hz
    split at hz
    · cases hz
      rw [hy]
      exact h.2 f x hx
    · exact h.2 g z hz

/-- A state without families, slots and descriptors balances. -/
theorem State.liveBalanced_of_empty {s : State} (h1 : s.tables = Bank.fill []) (h2 : s.families = [])
    (h3 : s.descriptors = []) : s.liveBalanced := by
  constructor
  · intro f
    rw [State.copies_eq, h1, h3, State.liveOf, State.family, h2]
    simp only [Bank.get_fill]
    rw [slotsOfFamily_eq]
    simp [Table.sumOf]
  · intro f x hx
    rw [State.family, h2] at hx
    exact nomatch hx

theorem liveCounted_recordInvariant : RecordInvariant (fun s => s.storesCanonical ∧ s.liveBalanced) where
  queues s v hv h := ⟨canonical_recordInvariant.queues s v hv h.1, h.2⟩
  frame _ _ _ _ _ _ _ _ _ h := h
  powerOn _ _ := ⟨State.reset_storesCanonical, State.liveBalanced_of_empty rfl rfl rfl⟩
  clearTables s t _ := ⟨s.clearTables_storesCanonical t, State.liveBalanced_of_empty rfl rfl rfl⟩
  placeRecord s x hr h := ⟨canonical_recordInvariant.placeRecord s x hr h.1, h.2⟩
  freeReport s r hr h := ⟨canonical_recordInvariant.freeReport s r hr h.1, h.2⟩
  setReport s r x hr h := ⟨canonical_recordInvariant.setReport s r x hr h.1, h.2⟩
  setDescriptor s d x y hd _ hy h := by
    refine ⟨s.setDescriptor_storesCanonical d y h.1,
      State.liveBalanced_of_eq (s := s) (t := s.setDescriptor d y) (fun f => ?_) rfl h.2⟩
    have hset := s.copies_setDescriptor d x y hd h.1 f
    rw [hy] at hset
    exact Nat.add_right_cancel hset
  releasedRecord s d x c hd h :=
    ⟨s.releasedRecord_storesCanonical d x c h.1, s.releasedRecord_liveBalanced d x c hd h.1 h.2⟩
  claimedRecord s t m c _ h := ⟨s.claimedRecord_storesCanonical t m c h.1, s.claimedRecord_liveBalanced t m c h.1 h.2⟩
  resolveGrant s t e h := ⟨s.resolveGrant_storesCanonical t e h.1, s.resolveGrant_liveBalanced t e h.1 h.2⟩
  freeSlot s t n x hx h := ⟨s.freeSlot_storesCanonical t n x h.1, s.freeSlot_liveBalanced t n x hx h.1 h.2⟩
  issueGrant s t a h := ⟨canonical_recordInvariant.issueGrant s t a h.1, s.issueGrant_liveBalanced t a h.1 h.2⟩
  installInto s t a h := ⟨canonical_recordInvariant.installInto s t a h.1, s.installInto_liveBalanced t a h.1 h.2⟩
  setFamily s f x y hx hy h := ⟨s.setFamily_storesCanonical f y h.1, s.setFamily_liveBalanced f x y hx hy h.2⟩
  revokeFamilies s test h := ⟨s.revokeFamilies_storesCanonical test h.1, s.revokeFamilies_liveBalanced test h.2⟩

end Sys2Proof.Machine

namespace Sys2Proof.Proofs

open Sys2Proof.Machine

/-- Settles O54: every change of slots, descriptors and live counts that a command makes balances, in the form in which
the live count of a FREE family is 0. -/
theorem stepsKeepLiveCounts : Obligations.StepsKeepLiveCounts := by
  rintro s t ⟨hcanon, hlive⟩ ht
  obtain ⟨hcanon', hlive'⟩ := liveCounted_recordInvariant.toLedgerInvariant.toCommandInvariant.step (fun _ _ h => h)
    ⟨hcanon, (s.liveCounted_iff).1 hlive⟩ ht
  exact ⟨hcanon', (t.liveCounted_iff).2 hlive'⟩

end Sys2Proof.Proofs
end

section
/-! PROOFS. The MANAGE holders under every command (R186), and the statement O57. -/

namespace Sys2Proof.Machine

theorem State.isEnabled_iff (s : State) (t : StationId) : s.isEnabled t = true ↔ (s.station t).state = .enabled := by
  simp [State.isEnabled]

theorem State.holdsManage_iff (s : State) (t : StationId) :
    s.holdsManage t = true ↔ (s.station t).state = .enabled ∧ (s.station t).manage = true := by
  simp [State.holdsManage, State.isEnabled]

/-- State and MANAGE choice of every station, and the sweep in progress, are as before. -/
def State.SameManagers (s t : State) : Prop :=
  (∀ u, (t.station u).state = (s.station u).state ∧ (t.station u).manage = (s.station u).manage) ∧ t.sweep = s.sweep

theorem State.SameManagers.managed {s t : State} (h : s.SameManagers t) (hs : s.managed) : t.managed := by
  obtain ⟨hst, hsw⟩ := h
  obtain ⟨⟨m, hm⟩, hev⟩ := hs
  refine ⟨⟨m, ?_⟩, fun x hx u hu => ?_⟩
  · rw [State.holdsManage_iff] at hm ⊢
    rw [(hst m).1, (hst m).2]
    exact hm
  · rw [(hst u).1]
    exact hev x (hsw ▸ hx) u hu

theorem State.sameManagers_of_standing {s t : State}
    (h : ∀ u, (t.station u).standing = (s.station u).standing) (hsw : t.sweep = s.sweep) : s.SameManagers t :=
  ⟨fun u => ⟨Station.state_of_standing (h u), Station.manage_of_standing (h u)⟩, hsw⟩

theorem managed_grantBlind : GrantBlind State.managed where
  grants _ _ _ _ _ h := h
  records _ _ _ _ _ _ h := h
  ports _ _ h := h
  callReport s t c h :=
    (State.sameManagers_of_standing (fun u => s.standing_callReport t u c) (s.callReport_sweep t c)).managed h
  releaseHeld s t q c pl h :=
    (State.sameManagers_of_standing (fun u => congrArg Station.standing (s.releaseHeld_station t q c pl u))
      (s.releaseHeld_sweep t q c pl)).managed h
  returnEntry s t q x e k _ _ h :=
    (State.sameManagers_of_standing (fun u => congrArg Station.standing (s.returnEntry_station t q x e k u))
      (s.returnEntry_sweep t q x e k)).managed h

/-- A changed station record that keeps state and MANAGE choice changes no holder. -/
theorem State.setStation_sameManagers (s : State) (t : StationId) (x : Station) (hst : x.state = (s.station t).state)
    (hm : x.manage = (s.station t).manage) : s.SameManagers (s.setStation t x) := by
  refine ⟨fun u => ?_, rfl⟩
  rw [State.station_setStation]
  split
  · rename_i e; rw [e]; exact ⟨hst, hm⟩
  · exact ⟨rfl, rfl⟩

/-- A holder other than the station whose record changes is a holder still. -/
theorem State.holdsManage_setStation_ne (s : State) {t m : StationId} (x : Station) (h : m ≠ t) :
    (s.setStation t x).holdsManage m = s.holdsManage m := by
  unfold State.holdsManage State.isEnabled
  rw [State.station_setStation, if_neg h]

/-- With more than one holder, or for another station, a station can lose MANAGE (R190). -/
theorem State.exists_other_holder (s : State) (t : StationId) (h : ∃ m, s.holdsManage m = true)
    (hn : s.holdsManage t = true → s.manageHolders ≠ 1) : ∃ m, m ≠ t ∧ s.holdsManage m = true := by
  obtain ⟨m, hm⟩ := h
  by_cases e : m = t
  · subst e
    by_contra hall
    refine hn hm ?_
    have hall' : ∀ u, s.holdsManage u = true ↔ u = m := fun u =>
      ⟨fun hu => by_contra fun hne => hall ⟨u, hne, hu⟩, fun hu => hu ▸ hm⟩
    unfold State.manageHolders stationsInOrder
    rw [List.countP_congr (q := fun u => u == m) (fun u _ => by rw [hall', beq_iff_eq])]
    exact List.count_eq_one_of_mem (List.nodup_finRange 8) (List.mem_finRange m)
  · exact ⟨m, e, hm⟩

theorem State.setManage_managed (s : State) (t : StationId) (b : Bool) (h : s.managed) :
    (s.setManage t b).state.managed := by
  obtain ⟨hholder, hev⟩ := h
  have hsweep : ∀ x ∈ s.sweep, ∀ u, x.subject = .evict u →
      ((s.setStation t { s.station t with manage := b }).station u).state = .evicting := by
    intro x hx u hu
    rw [State.station_setStation]
    split
    · rename_i e; exact e ▸ hev x hx u hu
    · exact hev x hx u hu
  unfold State.setManage
  dsimp only
  split
  · exact ⟨hholder, hev⟩
  · rename_i hen
    split
    · exact ⟨hholder, hev⟩
    · rename_i hlast
      refine ⟨?_, hsweep⟩
      cases b with
      | true =>
        refine ⟨t, ?_⟩
        rw [State.holdsManage_iff, State.station_setStation_self]
        exact ⟨(s.isEnabled_iff t).1 (by simpa using hen), rfl⟩
      | false =>
        obtain ⟨m, hne, hm⟩ := s.exists_other_holder t hholder (fun ht hone => by
          have hman := ((s.holdsManage_iff t).1 ht).2
          simp [hman, hone] at hlast)
        exact ⟨m, (s.holdsManage_setStation_ne _ hne).trans hm⟩

theorem State.reset_managed : State.reset.managed :=
  ⟨⟨0, by decide +kernel⟩, fun _ hx => nomatch hx⟩

theorem State.clearTables_managed (s : State) (t : StationId) : (s.clearTables t).managed := by
  refine ⟨⟨t, ?_⟩, fun _ hx => nomatch hx⟩
  have hst : (s.clearTables t).station t = (s.station t).cleared true := by
    show Bank.get (Bank.mapIdx s.stations (fun u x => x.cleared (u == t))) t = _
    rw [Bank.get_mapIdx, beq_self_eq_true]
    rfl
  rw [State.holdsManage_iff, hst]
  exact ⟨rfl, rfl⟩

theorem managed_ledgerInvariant : LedgerInvariant State.managed where
  ports _ _ h := h
  queues _ _ _ h := h
  counts _ _ _ _ h := h
  powerOn _ _ := State.reset_managed
  clearTables s t _ := s.clearTables_managed t
  placeRecord _ _ _ h := h
  freeReport _ _ _ h := h
  setReport _ _ _ _ h := h
  setDescriptor _ _ _ _ _ _ _ h := h
  releasedRecord s d x c _ h := by
    unfold State.releasedRecord
    cases x.grant with
    | none => exact h
    | some g => exact managed_grantBlind.releaseGrant c d x.target g h
  claimedRecord s t m c _ h := managed_grantBlind.attachGrant t m.attach (managed_grantBlind.spend t m.slot 1 h)
  resolveGrant _ t e h := managed_grantBlind.resolveGrant t e h
  freeSlot _ t n x _ h := managed_grantBlind.freeSlot t n x h
  issueGrant _ t a h := managed_grantBlind.issueGrant t a h
  installInto _ t a h := managed_grantBlind.installInto t a h
  setFamily _ _ _ _ _ _ h := h
  revokeFamilies _ _ h := h
  startSweep s t x a b hx h := by
    refine ⟨h.1, fun y hy u hu => hx u ?_⟩
    cases hy
    exact hu
  moveSweep s x y hx hy h := by
    refine ⟨h.1, fun z hz u hu => h.2 x hx u ?_⟩
    cases hz
    exact hy ▸ hu
  endSweep _ _ h := ⟨h.1, fun _ hx => nomatch hx⟩
  setStation s t x hst hm h := (s.setStation_sameManagers t x hst hm).managed h
  enable s t x ha hx h := by
    obtain ⟨⟨m, hm⟩, hev⟩ := h
    have hne : m ≠ t := fun e => by
      have hen := ((s.holdsManage_iff m).1 hm).1
      rw [e, ha] at hen
      exact nomatch hen
    refine ⟨⟨m, (s.holdsManage_setStation_ne x hne).trans hm⟩, fun y hy u hu => ?_⟩
    have hevu := hev y hy u hu
    rw [State.station_setStation, if_neg]
    · exact hevu
    · intro e
      rw [e, ha] at hevu
      exact nomatch hevu
  setManage := State.setManage_managed
  beginEvict s r t hr ht hnone h := by
    refine ⟨⟨r, (s.holdsManage_setStation_ne _ (Ne.symm ht)).trans hr⟩, fun x hx => ?_⟩
    rw [State.setStation_sweep, hnone] at hx
    exact nomatch hx
  endEvict s x u hx hu h := by
    obtain ⟨⟨m, hm⟩, hev⟩ := h
    have hne : m ≠ u := fun e => by
      have hen := ((s.holdsManage_iff m).1 hm).1
      rw [e, hev x hx u hu] at hen
      exact nomatch hen
    exact ⟨⟨m, (s.holdsManage_setStation_ne _ hne).trans hm⟩, fun _ hy => nomatch hy⟩

end Sys2Proof.Machine

namespace Sys2Proof.Proofs

open Sys2Proof.Machine

/-- Settles O57: a holder loses MANAGE only where another holds it, and ENABLED only by an evict that another holder
asked for; the station that an evict makes ABSENT is EVICTING, so that no holder is lost there. -/
theorem stepsKeepAManageHolder : Obligations.StepsKeepAManageHolder := fun _ _ hs ht =>
  managed_ledgerInvariant.toCommandInvariant.step (fun _ _ h => h) hs ht

end Sys2Proof.Proofs
end

section
/-! PROOFS. What the operations do to the ports, one port at a time; the ports under every command (R100, R101, R156,
R169), and the statement O56. -/

namespace Sys2Proof.Machine

/-! ### What the operations do to the ports -/

theorem State.port_of_ports {s t : State} (h : t.ports = s.ports) (p : PortId) : t.port p = s.port p :=
  congrArg (fun v => Bank.get v p) h

theorem State.port_of_setPorts {s t : State} {p : PortId} {x : PortLink} (h : t.ports = Bank.set s.ports p x)
    (q : PortId) : t.port q = if q = p then x else s.port q := by
  rw [State.port, h, Bank.get_set]
  rfl

@[simp] theorem State.port_handBack (s : State) (done l : List EntryRef) (p : PortId) :
    (s.handBack done l).port p = s.port p := State.port_of_ports (s.handBack_ports done l) p

@[simp] theorem State.endSession_ports (s : State) (p : PortId) :
    (s.endSession p).ports = Bank.set s.ports p (s.port p).withoutSession := by
  simp [State.endSession]

@[simp] theorem State.endSession_port_self (s : State) (p : PortId) :
    (s.endSession p).port p = (s.port p).withoutSession := by
  rw [State.port_of_setPorts (s.endSession_ports p), if_pos rfl]

/-- A port that has been fenced (R170). -/
def PortLink.fenced (x : PortLink) (c : FenceCause) : PortLink :=
  { x.withoutSession with state := .fenced, fenceCause := some c, linkReply := none }

theorem State.fence_ports (s : State) (p : PortId) (c : FenceCause) :
    (s.fence p c).ports = Bank.set s.ports p ((s.port p).fenced c) := by
  simp [State.fence, PortLink.fenced]

/-- An ACTIVE port after a protocol error (R169). -/
def PortLink.afterProtocolError (x : PortLink) : PortLink :=
  if x.protocolErrors + 1 = x.protocolLimit then
    { x with protocolErrors := x.protocolErrors + 1 }.fenced .protocol
  else { x with protocolErrors := x.protocolErrors + 1 }

theorem State.protocolError_ports (s : State) (p : PortId) (h : (s.port p).state = .active) :
    (s.protocolError p).ports = Bank.set s.ports p (s.port p).afterProtocolError := by
  unfold State.protocolError PortLink.afterProtocolError
  dsimp only
  rw [if_pos h]
  split
  · rw [State.fence_ports, State.port_setPort_self, State.setPort_ports, Bank.set_set]
  · rfl

theorem State.protocolError_of_not_active (s : State) (p : PortId) (h : (s.port p).state ≠ .active) :
    s.protocolError p = s := if_neg h

/-- A transmission changes the window of its port alone (R102 to R108). -/
theorem State.transmit_ports (s : State) (p : PortId) (e : EntryRef) :
    ∃ frames, (s.transmit p e).ports =
      Bank.set s.ports p { s.port p with window := Claims.selectedWindow (s.port p).window e frames } := by
  have hport : ∀ t : State, t.ports = s.ports → t.port p = s.port p := fun t ht => State.port_of_ports ht p
  have hw : ∀ frames, ({ s.window p with
      outstanding := (s.window p).outstanding ++ [e]
      nextSeq := (s.window p).nextSeq + 1
      credit := (s.window p).credit - 1
      timer := if (s.window p).outstanding.isEmpty then some (s.window p).ackTimeout else (s.window p).timer
      newDeliveries := (s.window p).newDeliveries ++ frames } : Window) =
        Claims.selectedWindow (s.port p).window e frames := by
    intro frames
    unfold Claims.selectedWindow State.window
    cases (s.port p).window.outstanding <;> rfl
  unfold State.transmit
  dsimp only
  rw [State.setWindow_ports, hport _ (by simp), hw, State.markRepeated_ports, State.resolveGrant_ports,
    State.giveSeq_ports]
  exact ⟨_, rfl⟩

/-! ### A coherent port, state by state -/

/-- The bounds of a port that no event of a session touches. -/
def PortLink.settled (x : PortLink) : Prop :=
  x.crcErrors ≤ 65535 ∧ 1 ≤ x.protocolLimit ∧ x.window.retryLimit ≤ 7 ∧ 1 ≤ x.window.ackTimeout

/-- A port without session, with its queues and its window empty (R161). -/
def PortLink.emptied (x : PortLink) : Prop :=
  x.session = none ∧ x.ingress = [] ∧ x.history = [] ∧ x.window.idle

theorem PortLink.coherent.settled {x : PortLink} (h : x.coherent) : x.settled := by
  obtain ⟨-, -, -, hcrc, hlimit, ⟨-, -, -, hretry, hack, -⟩, -⟩ := h
  exact ⟨hcrc, hlimit, hretry, hack⟩

theorem PortLink.coherent.emptied {x : PortLink} (h : x.coherent) (hx : x.state ≠ .active) : x.emptied := by
  obtain ⟨-, -, -, -, -, -, -, hses, hquiet, -⟩ := h
  obtain ⟨hin, hhist, hw⟩ := hquiet hx
  exact ⟨not_ne_iff.1 (fun k => hx (hses.2 k)), hin, hhist, hw⟩

theorem PortLink.withoutSession_emptied (x : PortLink) : x.withoutSession.emptied :=
  ⟨rfl, rfl, rfl, rfl, rfl, rfl, rfl, rfl, rfl, rfl⟩

/-- A port that is not ACTIVE is coherent when it is empty and says what its state asks of answers and error count. -/
theorem PortLink.coherent_of_emptied {x : PortLink} (hs : x.settled) (he : x.emptied) (hx : x.state ≠ .active)
    (hans : x.answers.length ≤ 8) (hclosed : x.state = .down ∨ x.state = .fenced → x.answers = [] ∧ x.linkReply = none)
    (hfenced : x.state = .fenced → x.protocolErrors ≤ x.protocolLimit ∧ x.fenceCause ≠ none)
    (hbelow : x.state ≠ .fenced → x.protocolErrors < x.protocolLimit) : x.coherent := by
  obtain ⟨hcrc, hlimit, hretry, hack⟩ := hs
  obtain ⟨hses, hin, hhist, hw⟩ := he
  obtain ⟨hout, -, hcredit, htimer, hcount, -, -⟩ := id hw
  refine ⟨by simp [hin], by simp [hhist], hans, hcrc, hlimit, ?_, by simp [hses], by simp [hx, hses],
    fun _ => ⟨hin, hhist, hw⟩, hclosed, hfenced, hbelow⟩
  exact ⟨by simp [hout], by simp [hcredit], by simp [hcount], hretry, hack, by simp [htimer, hout]⟩

theorem PortLink.coherent_iff_of_active {x : PortLink} (hx : x.state = .active) :
    x.coherent ↔
      (x.ingress.length ≤ 4 ∧ x.history.length ≤ 4 ∧ x.answers.length ≤ 8) ∧
      (x.crcErrors ≤ 65535 ∧ x.protocolErrors < x.protocolLimit) ∧ x.window.bounded ∧
      ∃ ses, x.session = some ses ∧ ses.bounded := by
  constructor
  · rintro ⟨hin, hhist, hans, hcrc, -, hw, hses, hiff, -, -, -, hbelow⟩
    obtain ⟨ses, hsome⟩ := Option.ne_none_iff_exists'.1 (hiff.1 hx)
    exact ⟨⟨hin, hhist, hans⟩, ⟨hcrc, hbelow (by simp [hx])⟩, hw, ses, hsome, hses ses hsome⟩
  · rintro ⟨⟨hin, hhist, hans⟩, ⟨hcrc, hbelow⟩, hw, ses, hsome, hses⟩
    exact ⟨hin, hhist, hans, hcrc, by omega, hw, by simpa [hsome] using hses, by simp [hx, hsome], by simp [hx], by simp [hx],
      by simp [hx], fun _ => hbelow⟩

theorem PortLink.coherent.below {x : PortLink} (h : x.coherent) (hx : x.state ≠ .fenced) :
    x.protocolErrors < x.protocolLimit := by
  obtain ⟨-, -, -, -, -, -, -, -, -, -, -, hbelow⟩ := h
  exact hbelow hx

theorem PortLink.coherent.answers_le {x : PortLink} (h : x.coherent) : x.answers.length ≤ 8 := by
  obtain ⟨-, -, hans, -⟩ := h
  exact hans

theorem PortLink.coherent.closed {x : PortLink} (h : x.coherent) (hx : x.state = .down ∨ x.state = .fenced) :
    x.answers = [] ∧ x.linkReply = none := by
  obtain ⟨-, -, -, -, -, -, -, -, -, hclosed, -⟩ := h
  exact hclosed hx

theorem PortLink.coherent.fence {x : PortLink} (h : x.coherent) (hx : x.state = .fenced) :
    x.protocolErrors ≤ x.protocolLimit ∧ x.fenceCause ≠ none := by
  obtain ⟨-, -, -, -, -, -, -, -, -, -, hfenced, -⟩ := h
  exact hfenced hx

/-! ### The changes of a port -/

theorem PortLink.reset_coherent : PortLink.reset.coherent :=
  PortLink.coherent_of_emptied (by unfold PortLink.settled; decide) ⟨rfl, rfl, rfl, by decide⟩ (by decide) (by decide) (fun _ => ⟨rfl, rfl⟩)
    (by decide) (fun _ => by decide)

/-- An ended session leaves an IDLE port, whatever its link reply is. -/
theorem PortLink.coherent_idle {y : PortLink} (hy : y.settled) (he : y.emptied)
    (hstate : y.state = .idle) (hans : y.answers.length ≤ 8) (hbelow : y.protocolErrors < y.protocolLimit) :
    y.coherent :=
  PortLink.coherent_of_emptied hy he (by simp [hstate]) hans (by simp [hstate]) (by simp [hstate]) (fun _ => hbelow)

theorem PortLink.fenced_coherent {x : PortLink} (c : FenceCause) (hs : x.settled)
    (he : x.protocolErrors ≤ x.protocolLimit) : (x.fenced c).coherent :=
  PortLink.coherent_of_emptied hs x.withoutSession_emptied (fun k => nomatch k) (Nat.zero_le 8) (fun _ => ⟨rfl, rfl⟩)
    (fun _ => ⟨he, Option.some_ne_none c⟩) (fun k => absurd rfl k)

theorem PortLink.afterProtocolError_coherent {x : PortLink} (h : x.coherent) (hx : x.state = .active) :
    x.afterProtocolError.coherent := by
  have hbelow := h.below (by simp [hx])
  unfold PortLink.afterProtocolError
  split
  · exact PortLink.fenced_coherent _ h.settled (by show x.protocolErrors + 1 ≤ x.protocolLimit; omega)
  · obtain ⟨hlen, ⟨hcrc, -⟩, hw, hses⟩ := (PortLink.coherent_iff_of_active hx).1 h
    exact (PortLink.coherent_iff_of_active (x := { x with protocolErrors := x.protocolErrors + 1 }) hx).2
      ⟨hlen, ⟨hcrc, by dsimp only; omega⟩, hw, hses⟩

/-- A new window keeps an ACTIVE port coherent when it is within its bounds. -/
theorem PortLink.withWindow_coherent {x : PortLink} {w : Window} (h : x.coherent) (hx : x.state = .active)
    (hw : w.bounded) : ({ x with window := w } : PortLink).coherent := by
  obtain ⟨hlen, hcounts, -, hses⟩ := (PortLink.coherent_iff_of_active hx).1 h
  exact (PortLink.coherent_iff_of_active (x := { x with window := w }) hx).2 ⟨hlen, hcounts, hw, hses⟩

theorem PortLink.coherent.bounded {x : PortLink} (h : x.coherent) : x.window.bounded := by
  obtain ⟨-, -, -, -, -, hw, -⟩ := h
  exact hw

theorem Window.progress_bounded {w : Window} (h : w.bounded) (n : Nat) (seqs : List SeqNum) (k : Nat) :
    (w.progress n seqs k).bounded := by
  obtain ⟨hout, -, -, hretry, hack, -⟩ := h
  refine ⟨?_, Nat.min_le_left _ _, Nat.zero_le 7, hretry, hack, ?_⟩
  · simp only [Window.progress, List.length_drop]; omega
  · simp only [Window.progress]
    cases w.outstanding.drop n <;> simp

theorem Window.selected_bounded {w : Window} (h : w.bounded) (hlen : w.outstanding.length < 4) (e : EntryRef)
    (frames : List DeliveryFrame) : (Claims.selectedWindow w e frames).bounded := by
  obtain ⟨-, hcredit, hcount, hretry, hack, htimer⟩ := h
  refine ⟨?_, ?_, hcount, hretry, hack, ?_⟩
  · simp only [Claims.selectedWindow, List.length_append, List.length_singleton]; omega
  · simp only [Claims.selectedWindow]; omega
  · simp only [Claims.selectedWindow]
    split
    · simp
    · rename_i hne
      simp [htimer, hne]

theorem PortLink.tick_coherent {x : PortLink} (h : x.coherent) : x.tick.coherent := by
  obtain ⟨hin, hhist, hans, hcrc, hlimit, ⟨hout, hcredit, hcount, hretry, hack, htimer⟩, hses, hiff, hquiet, hrest⟩ := h
  refine ⟨hin, hhist, hans, hcrc, hlimit, ⟨hout, hcredit, hcount, hretry, hack, ?_⟩, hses, hiff, fun k => ?_, hrest⟩
  · simpa [PortLink.tick] using htimer
  · obtain ⟨hi, hh, ho, hn, hc, ht, hr⟩ := hquiet k
    exact ⟨hi, hh, ho, hn, hc, by simp [PortLink.tick, ht], hr⟩

/-- A port after its head frame has left the ingress queue. -/
theorem PortLink.popped_coherent {x : PortLink} {f : IngressFrame} {rest : List IngressFrame} (h : x.coherent)
    (hin : x.ingress = f :: rest) : ({ x with ingress := rest } : PortLink).coherent ∧ x.state = .active := by
  have hx : x.state = .active := by
    by_contra k
    obtain ⟨-, hi, -⟩ := h.emptied k
    rw [hin] at hi
    exact nomatch hi
  obtain ⟨⟨hlen, hhist, hans⟩, hcounts, hw, hses⟩ := (PortLink.coherent_iff_of_active hx).1 h
  rw [hin, List.length_cons] at hlen
  exact ⟨(PortLink.coherent_iff_of_active (x := { x with ingress := rest }) hx).2
    ⟨⟨by dsimp only; omega, hhist, hans⟩, hcounts, hw, hses⟩, hx⟩

theorem enterHistory_length {l : List Answer} (h : l.length ≤ 4) (a : Answer) : (enterHistory l a).length ≤ 4 := by
  unfold enterHistory Config.historyCapacity
  split <;> simp only [List.length_append, List.length_singleton, List.length_drop] <;> omega

theorem PortLink.answered_coherent {x : PortLink} (h : x.coherent) (hx : x.state = .active)
    (hroom : x.answers.length < 8) (a : Answer) :
    ({ x with answers := x.answers ++ [a], history := enterHistory x.history a } : PortLink).coherent := by
  obtain ⟨⟨hin, hhist, hans⟩, hcounts, hw, hses⟩ := (PortLink.coherent_iff_of_active hx).1 h
  exact (PortLink.coherent_iff_of_active
    (x := { x with answers := x.answers ++ [a], history := enterHistory x.history a }) hx).2
    ⟨⟨hin, enterHistory_length hhist a, by simpa using hroom⟩, hcounts, hw, hses⟩

/-- The link reply of an IDLE or ACTIVE port may change. -/
theorem PortLink.withReply_coherent {x : PortLink} (h : x.coherent) (hx : x.state = .idle ∨ x.state = .active)
    (r : Option LinkReply) : ({ x with linkReply := r } : PortLink).coherent := by
  obtain ⟨hin, hhist, hans, hcrc, hlimit, hw, hses, hiff, hquiet, -, hfenced, hbelow⟩ := h
  refine ⟨hin, hhist, hans, hcrc, hlimit, hw, hses, hiff, hquiet, fun k => ?_, hfenced, hbelow⟩
  have k' : x.state = .down ∨ x.state = .fenced := k
  rcases hx with hx | hx <;> simp [hx] at k'

/-! The egress link by what waits for it (R173). -/

section

variable {x : PortLink} (p : PortId)

theorem PortLink.grantEgress_closed (hx : x.state = .down ∨ x.state = .fenced) :
    x.grantEgress p = { x with line := none } := by
  rcases hx with hx | hx <;> simp [PortLink.grantEgress, hx]

theorem PortLink.grantEgress_reply (hx : x.state = .idle ∨ x.state = .active) {r : LinkReply}
    (hr : x.linkReply = some r) :
    x.grantEgress p = { x with linkReply := none, line := some (sealFrame (r.bytes p)) } := by
  rcases hx with hx | hx <;> simp [PortLink.grantEgress, hx, hr]

theorem PortLink.grantEgress_answer (hx : x.state = .idle ∨ x.state = .active) (hr : x.linkReply = none) {a : Answer}
    {rest : List Answer} (ha : x.answers = a :: rest) :
    x.grantEgress p = { x with answers := rest, line := some (sealFrame a.bytes) } := by
  rcases hx with hx | hx <;> simp [PortLink.grantEgress, hx, hr, ha]

theorem PortLink.grantEgress_retransmission (hx : x.state = .idle ∨ x.state = .active) (hr : x.linkReply = none)
    (ha : x.answers = []) {f : DeliveryFrame} {rest : List DeliveryFrame} (ht : x.window.retransmissions = f :: rest) :
    x.grantEgress p =
      { x with line := some (sealFrame f.bytes), window := { x.window with retransmissions := rest } } := by
  rcases hx with hx | hx <;> simp [PortLink.grantEgress, hx, hr, ha, ht]

theorem PortLink.grantEgress_newDelivery (hx : x.state = .idle ∨ x.state = .active) (hr : x.linkReply = none)
    (ha : x.answers = []) (ht : x.window.retransmissions = []) {f : DeliveryFrame} {rest : List DeliveryFrame}
    (hn : x.window.newDeliveries = f :: rest) :
    x.grantEgress p =
      { x with line := some (sealFrame f.bytes), window := { x.window with newDeliveries := rest } } := by
  rcases hx with hx | hx <;> simp [PortLink.grantEgress, hx, hr, ha, ht, hn]

theorem PortLink.grantEgress_nothing (hx : x.state = .idle ∨ x.state = .active) (hr : x.linkReply = none)
    (ha : x.answers = []) (ht : x.window.retransmissions = []) (hn : x.window.newDeliveries = []) :
    x.grantEgress p = { x with line := none } := by
  rcases hx with hx | hx <;> simp [PortLink.grantEgress, hx, hr, ha, ht, hn]

end

/-- A frame that waits in the window waits on an ACTIVE port. -/
theorem PortLink.coherent.active_of_waiting {x : PortLink} (h : x.coherent)
    (hw : x.window.retransmissions ≠ [] ∨ x.window.newDeliveries ≠ []) : x.state = .active := by
  by_contra k
  obtain ⟨-, -, -, -, -, -, -, -, ht, hn⟩ := h.emptied k
  exact hw.elim (fun e => e ht) (fun e => e hn)

theorem PortLink.withoutAnswer_coherent {x : PortLink} (h : x.coherent)
    {a : Answer} {rest : List Answer} (ha : x.answers = a :: rest) :
    ({ x with answers := rest } : PortLink).coherent := by
  obtain ⟨hin, hhist, hans, hcrc, hlimit, hw, hses, hiff, hquiet, hclosed, hfb⟩ := h
  rw [ha, List.length_cons] at hans
  refine ⟨hin, hhist, by dsimp only; omega, hcrc, hlimit, hw, hses, hiff, hquiet, fun k => ?_, hfb⟩
  exact absurd (hclosed k).1 (by simp [ha])

theorem PortLink.grantEgress_coherent {x : PortLink} (h : x.coherent) (p : PortId) : (x.grantEgress p).coherent := by
  have hstate : (x.state = .down ∨ x.state = .fenced) ∨ (x.state = .idle ∨ x.state = .active) := by
    cases x.state <;> simp
  rcases hstate with hx | hx
  · rw [PortLink.grantEgress_closed p hx]; exact h
  · cases hr : x.linkReply with
    | some r => rw [PortLink.grantEgress_reply p hx hr]; exact PortLink.withReply_coherent h hx none
    | none =>
      cases ha : x.answers with
      | cons a rest => rw [PortLink.grantEgress_answer p hx hr ha]; exact PortLink.withoutAnswer_coherent h ha
      | nil =>
        cases ht : x.window.retransmissions with
        | cons f rest =>
          rw [PortLink.grantEgress_retransmission p hx hr ha ht]
          exact PortLink.withWindow_coherent (w := { x.window with retransmissions := rest }) h
            (h.active_of_waiting (Or.inl (by simp [ht]))) h.bounded
        | nil =>
          cases hn : x.window.newDeliveries with
          | cons f rest =>
            rw [PortLink.grantEgress_newDelivery p hx hr ha ht hn]
            exact PortLink.withWindow_coherent (w := { x.window with newDeliveries := rest }) h
              (h.active_of_waiting (Or.inr (by simp [hn]))) h.bounded
          | nil => rw [PortLink.grantEgress_nothing p hx hr ha ht hn]; exact h

theorem PortLink.withSession_coherent {x : PortLink} (h : x.coherent) (hx : x.state = .idle ∨ x.state = .active)
    {n : Nat} (hn : 1 ≤ n ∧ n ≤ 15) : (x.withSession n).coherent := by
  obtain ⟨hcrc, hlimit, hretry, hack⟩ := h.settled
  have hbelow : x.protocolErrors < x.protocolLimit := h.below (by rcases hx with hx | hx <;> simp [hx])
  refine (PortLink.coherent_iff_of_active (x := x.withSession n) rfl).2
    ⟨⟨Nat.zero_le 4, Nat.zero_le 4, Nat.zero_le 8⟩, ⟨hcrc, hbelow⟩, ?_, ⟨n, 0, 0⟩, rfl, hn.1, hn.2, Nat.zero_le 4⟩
  exact ⟨Nat.zero_le 4, Nat.zero_le 15, Nat.zero_le 7, hretry, hack, by simp [PortLink.withSession, Window.afterSession]⟩

theorem PortLink.cutOff_coherent {x : PortLink} (hs : x.settled) (he : x.emptied) (n : Nat) (hn : n < x.protocolLimit) :
    ({ x.cutOff with state := .down, protocolErrors := n } : PortLink).coherent := by
  obtain ⟨hses, hin, hhist, hout, hnext, hcredit, htimer, hcount, -, -⟩ := he
  exact PortLink.coherent_of_emptied hs ⟨hses, hin, hhist, hout, hnext, hcredit, htimer, hcount, rfl, rfl⟩
    (fun k => nomatch k) (Nat.zero_le 8) (fun _ => ⟨rfl, rfl⟩) (fun k => nomatch k) (fun _ => hn)

theorem PortLink.cleared_coherent {x : PortLink} (h : x.coherent) (b : Bool) : (x.cleared b).coherent := by
  unfold PortLink.cleared
  cases hx : x.state with
  | active =>
    refine PortLink.coherent_idle h.settled x.withoutSession_emptied rfl ?_ (h.below (by simp [hx]))
    cases b
    · exact Nat.zero_le 8
    · exact h.answers_le
  | fenced =>
    obtain ⟨-, hlimit, -⟩ := h.settled
    exact PortLink.coherent_idle (y := { x with state := .idle, protocolErrors := 0 }) h.settled
      (h.emptied (by simp [hx])) rfl h.answers_le hlimit
  | down => exact h
  | idle => exact h

end Sys2Proof.Machine
end

section
/-! PROOFS. The ports under every command, and the statement O56. -/

namespace Sys2Proof.Machine

/-! ### The owning rules that leave the ports alone -/

theorem State.issueGrant_ports (s : State) (t : StationId) (a : IssueGrantParams) :
    (s.issueGrant t a).state.ports = s.ports := by
  unfold State.issueGrant
  split <;> rfl

theorem State.dropGrant_ports (s : State) (t : StationId) (n : Nat) : (s.dropGrant t n).state.ports = s.ports := by
  unfold State.dropGrant
  repeat' split
  · rfl
  · rfl
  · exact s.freeSlot_ports t n _

theorem State.installInto_ports (s : State) (t : StationId) (a : InstallGrantParams) :
    (s.installInto t a).state.ports = s.ports := by
  rcases s.installInto_cases t a with e | ⟨y, -, -, -, -, e⟩ <;> rw [e]
  simp

theorem State.openQueue_ports (s : State) (t : StationId) (a : Nat × Nat × Nat) :
    (s.openQueue t a).state.ports = s.ports := by
  unfold State.openQueue
  split
  · rfl
  · dsimp only
    split
    · rfl
    · split <;> rfl

theorem State.changeSeal_ports (s : State) (t : StationId) (q : Nat) (a b : QueueState) :
    (s.changeSeal t q a b).state.ports = s.ports := by
  unfold State.changeSeal
  repeat' split
  all_goals rfl

theorem State.setDepth_ports (s : State) (t : StationId) (a : Nat × Nat) : (s.setDepth t a).state.ports = s.ports := by
  unfold State.setDepth
  repeat' split
  all_goals rfl

theorem State.moveBand_ports (s : State) (t : StationId) (q : Nat) (x : Queue) (n : Band) :
    (s.moveBand t q x n).ports = s.ports := by
  unfold State.moveBand
  dsimp only
  repeat' split
  all_goals rfl

theorem State.setBand_ports (s : State) (t : StationId) (a : Nat × Nat) : (s.setBand t a).state.ports = s.ports := by
  unfold State.setBand
  repeat' split
  all_goals first | rfl | exact s.moveBand_ports t _ _ _

theorem State.revokeFamily_ports (s : State) (t : StationId) (f : Nat) : (s.revokeFamily t f).state.ports = s.ports := by
  unfold State.revokeFamily
  repeat' split
  all_goals rfl

theorem State.readFamily_state (s : State) (t : StationId) (f : Nat) : (s.readFamily t f).state = s := by
  unfold State.readFamily
  split <;> rfl

theorem State.purgeQueue_ports (s : State) (r t : StationId) (q : Nat) :
    (s.purgeQueue r t q).state.ports = s.ports := by
  unfold State.purgeQueue
  repeat' split
  all_goals rfl

theorem State.enableStation_ports (s : State) (t : StationId) (a : EnableParams) :
    (s.enableStation t a).state.ports = s.ports := by
  unfold State.enableStation
  split <;> rfl

theorem State.setLimits_ports (s : State) (t : StationId) (a : LimitsParams) :
    (s.setLimits t a).state.ports = s.ports := by
  unfold State.setLimits
  dsimp only
  repeat' split
  all_goals rfl

theorem State.setManage_ports (s : State) (t : StationId) (b : Bool) : (s.setManage t b).state.ports = s.ports := by
  unfold State.setManage
  dsimp only
  repeat' split
  all_goals rfl

theorem withStation_ports {s : State} (n : Nat) (work : StationId → Reply)
    (h : ∀ t, (work t).state.ports = s.ports) : (withStation s n work).state.ports = s.ports :=
  withStation_keeps (P := fun t => t.ports = s.ports) n work (fun t _ => h t) rfl

/-- EVICT STATION changes the port of its subject alone: an ACTIVE session there ends (R135). -/
theorem State.evictStation_ports (s : State) (r t : StationId) :
    (s.evictStation r t).state.ports = s.ports ∨
    ((s.port t).state = .active ∧ (s.evictStation r t).state.ports =
      Bank.set s.ports t { (s.port t).withoutSession with state := .idle, linkReply := none }) := by
  have hport : (((s.setStation t { s.station t with state := .evicting }).revokeFamilies
      (fun x => x.issuer == t)).purgeAllQueues t).port t = s.port t := rfl
  unfold State.evictStation
  split
  · exact Or.inl rfl
  · split
    · exact Or.inl rfl
    · dsimp only
      rw [hport]
      split
      · rename_i h
        refine Or.inr ⟨eq_of_beq h, ?_⟩
        show Bank.set _ t _ = _
        rw [State.endSession_port_self, State.endSession_ports, Bank.set_set, hport]
        rfl
      · exact Or.inl rfl

/-! ### The steps of a sweep and the takings -/

theorem State.endSweep_ports (s : State) (x : Sweep) : (s.endSweep x).ports = s.ports := by
  unfold State.endSweep
  dsimp only
  split
  · exact s.callReport_ports _ _
  · rfl

theorem State.advanceSlot_ports (s : State) (x : Sweep) (t : StationId) (n : Nat) :
    (s.advanceSlot x t n).ports = s.ports := by
  rcases s.advanceSlot_cases x t n with ⟨c, -, e⟩ | ⟨f, -, e⟩ <;> rw [e]
  exact s.endSweep_ports x

theorem State.leaveQueue_ports (s : State) (x : Sweep) (t : StationId) (q : Nat) :
    (s.leaveQueue x t q).ports = s.ports := by
  rcases s.leaveQueue_cases x t q with ⟨u, r, -, e⟩ | ⟨u, -, e⟩ | ⟨-, e⟩ <;> rw [e]
  · exact State.endSweep_ports _ _
  · exact s.endSweep_ports x

theorem State.sweepSlot_ports (s : State) (t : StationId) (n : Nat) (y : Slot) :
    (s.sweepSlot t n y).ports = s.ports := by
  unfold State.sweepSlot
  dsimp only
  split <;> simp

theorem State.setMark_ports (s : State) (t : StationId) (q : Nat) : (s.setMark t q).ports = s.ports := by
  unfold State.setMark
  split <;> simp

theorem State.sweepEntry_ports (s : State) (t : StationId) (q : Nat) (y : Queue) (e : EntryRef) (r : List ListEntry) :
    (s.sweepEntry t q y e r).ports = s.ports := by
  simp [State.sweepEntry]

theorem State.slotStep_ports (s : State) : s.slotStep.ports = s.ports := by
  rcases s.slotStep_cases with e | ⟨x, t, n, -, -, e | ⟨y, -, -, e⟩⟩ <;> rw [e]
  · exact s.advanceSlot_ports x t n
  · rw [State.advanceSlot_ports, State.sweepSlot_ports]

theorem State.queueStep_ports (s : State) : s.queueStep.ports = s.ports := by
  rcases s.queueStep_cases with
    e | ⟨x, t, q, -, -, ⟨-, e⟩ | ⟨y, -, ⟨-, e⟩ | ⟨e', r, x', -, -, -, ⟨-, e⟩ | ⟨-, e⟩⟩⟩⟩ <;> rw [e]
  · exact s.leaveQueue_ports x t q
  · rw [State.leaveQueue_ports, State.setMark_ports]
  · rw [State.leaveQueue_ports, State.setMark_ports, State.sweepEntry_ports]
  · exact s.sweepEntry_ports t q y e'.ref r

theorem State.spend_ports (s : State) (t : StationId) (n b : Nat) : (s.spend t n b).ports = s.ports := by
  unfold State.spend
  split <;> rfl

theorem State.attachGrant_ports (s : State) (t : StationId) (a : Option Attach) :
    (s.attachGrant t a).1.ports = s.ports := by
  unfold State.attachGrant
  repeat' split
  · rfl
  · rfl
  · rw [State.raiseLive_ports, State.spend_ports]
  · rfl
  · rfl

theorem State.commitMessage_ports (s : State) (t : StationId) (m : MessageRequest) (c : AdmissionContext) :
    (s.commitMessage t m c).ports = s.ports := by
  have hclaimed : (s.claimedRecord t m c).ports = s.ports :=
    (State.attachGrant_ports _ t m.attach).trans (s.spend_ports t m.slot 1)
  rw [State.commitMessage_eq, State.enqueued]
  split <;> exact hclaimed

/-! ### Coherent ports -/

theorem State.portsCoherent_of_ports {s t : State} (hs : s.portsCoherent) (h : t.ports = s.ports) : t.portsCoherent :=
  fun q => (State.port_of_ports h q).symm ▸ hs q

theorem State.portsCoherent_of_setPorts {s t : State} {p : PortId} {x : PortLink} (hs : s.portsCoherent)
    (h : t.ports = Bank.set s.ports p x) (hx : x.coherent) : t.portsCoherent := by
  intro q
  rw [State.port_of_setPorts h]
  split
  · exact hx
  · exact hs q

namespace State.portsCoherent

variable {s : State} (hs : s.portsCoherent)
include hs

theorem setPort {p : PortId} {x : PortLink} (hx : x.coherent) : (s.setPort p x).portsCoherent :=
  State.portsCoherent_of_setPorts hs rfl hx

/-- The session of an ACTIVE port ends and the port takes a coherent state. -/
theorem endSession {p : PortId} {x : PortLink} (hx : x.coherent) : ((s.endSession p).setPort p x).portsCoherent :=
  State.portsCoherent_of_setPorts (p := p) hs (by simp) hx

theorem fence {p : PortId} (c : FenceCause) (hp : (s.port p).protocolErrors ≤ (s.port p).protocolLimit) :
    (s.fence p c).portsCoherent :=
  State.portsCoherent_of_setPorts hs (s.fence_ports p c) (PortLink.fenced_coherent c (hs p).settled hp)

theorem protocolError (p : PortId) : (s.protocolError p).portsCoherent := by
  by_cases h : (s.port p).state = .active
  · exact State.portsCoherent_of_setPorts hs (s.protocolError_ports p h)
      (PortLink.afterProtocolError_coherent (hs p) h)
  · rw [s.protocolError_of_not_active p h]; exact hs

/-! Signal and sessions. -/

theorem detectSignal (p : PortId) : (s.detectSignal p).portsCoherent := by
  unfold State.detectSignal
  dsimp only
  split
  · rename_i h
    have hc := hs p
    exact hs.setPort (PortLink.coherent_idle (y := { s.port p with state := .idle }) hc.settled
      (hc.emptied (by simp [h])) rfl hc.answers_le (hc.below (by simp [h])))
  all_goals exact hs

theorem loseSignal (p : PortId) : (s.loseSignal p).portsCoherent := by
  have hc := hs p
  unfold State.loseSignal
  split
  · exact hs
  · rename_i h
    refine hs.endSession ?_
    rw [State.endSession_port_self]
    exact PortLink.cutOff_coherent (x := (s.port p).withoutSession) hc.settled (s.port p).withoutSession_emptied _
      (hc.below (by simp [h]))
  · rename_i h
    exact hs.setPort (PortLink.cutOff_coherent hc.settled (hc.emptied (by simp [h])) _ (hc.below (by simp [h])))
  · rename_i h
    obtain ⟨-, hlimit, -⟩ := hc.settled
    exact hs.setPort (PortLink.cutOff_coherent hc.settled (hc.emptied (by simp [h])) 0 hlimit)

theorem arriveLinkOpen (p : PortId) {n : Nat} (hn : 1 ≤ n ∧ n ≤ 15) : (s.arriveLinkOpen p n).portsCoherent := by
  have hc := hs p
  unfold State.arriveLinkOpen
  split
  · exact hs
  · exact hs
  · rename_i h
    exact hs.setPort (PortLink.withSession_coherent hc (Or.inl h) hn)
  · rename_i h
    refine hs.endSession ?_
    rw [State.endSession_port_self]
    exact PortLink.withSession_coherent hc (Or.inr h) hn

theorem arriveLinkClose (p : PortId) : (s.arriveLinkClose p).portsCoherent := by
  have hc := hs p
  unfold State.arriveLinkClose
  split
  · exact hs
  · exact hs
  · rename_i h
    exact hs.setPort (PortLink.withReply_coherent hc (Or.inl h) _)
  · rename_i h
    refine hs.endSession ?_
    rw [State.endSession_port_self]
    exact PortLink.coherent_idle
      (y := { (s.port p).withoutSession with state := .idle, linkReply := some .closed }) hc.settled
      (s.port p).withoutSession_emptied rfl (Nat.zero_le 8) (hc.below (by simp [h]))

theorem withPong {p : PortId} (h : (s.port p).state = .idle ∨ (s.port p).state = .active) (b : Bool) :
    (s.setPort p ((s.port p).withPong b)).portsCoherent := by
  unfold PortLink.withPong
  split
  · rw [State.setPort_port_self]; exact hs
  · exact hs.setPort (PortLink.withReply_coherent (hs p) h _)

theorem arriveLinkPing (p : PortId) : (s.arriveLinkPing p).portsCoherent := by
  unfold State.arriveLinkPing
  dsimp only
  split
  · exact hs
  · exact hs
  · rename_i h; exact hs.withPong (Or.inl h) false
  · rename_i h; exact hs.withPong (Or.inr h) true

/-! Arrivals. -/

theorem arriveCrcError (p : PortId) : (s.arriveCrcError p).portsCoherent := by
  have hcounted : (s.setPort p { s.port p with
      crcErrors := saturatingSucc Config.crcErrorMax (s.port p).crcErrors }).portsCoherent := by
    obtain ⟨hin, hhist, hans, hcrc, hrest⟩ := hs p
    refine hs.setPort ⟨hin, hhist, hans, ?_, hrest⟩
    show saturatingSucc 65535 _ ≤ 65535
    unfold saturatingSucc
    split <;> omega
  unfold State.arriveCrcError
  dsimp only
  split
  · exact hs
  · exact hs
  · exact hcounted
  · exact hcounted

theorem arriveUnreadable (p : PortId) : (s.arriveUnreadable p).portsCoherent := by
  unfold State.arriveUnreadable
  split
  · exact hs
  · exact hs
  · exact hs
  · exact hs.protocolError p

theorem queueAnswer {p : PortId} (h : (s.port p).state = .active) (hroom : (s.port p).answerRoom = true) (a : Answer) :
    (s.queueAnswer p a).portsCoherent := by
  obtain ⟨⟨hin, hhist, -⟩, hcounts, hw, hses⟩ := (PortLink.coherent_iff_of_active h).1 (hs p)
  have hlt : (s.port p).answers.length < 8 := of_decide_eq_true hroom
  exact hs.setPort ((PortLink.coherent_iff_of_active
    (x := { s.port p with answers := (s.port p).answers ++ [a] }) h).2
    ⟨⟨hin, hhist, by simpa using hlt⟩, hcounts, hw, hses⟩)

theorem checkSequence {p : PortId} {x : Session} (f : IngressFrame) (h : (s.port p).state = .active)
    (hx : (s.port p).session = some x) : (s.checkSequence p x f).portsCoherent := by
  unfold State.checkSequence
  dsimp only
  split
  · split
    · rename_i hlen
      have hlen' : (s.port p).ingress.length < 4 := hlen
      obtain ⟨⟨-, hhist, hans⟩, hcounts, hw, ses, hsome, hlo, hhi, hacc⟩ :=
        (PortLink.coherent_iff_of_active h).1 (hs p)
      obtain rfl : ses = x := Option.some.inj (hsome.symm.trans hx)
      refine hs.setPort ((PortLink.coherent_iff_of_active (by exact h)).2
        ⟨⟨by simpa using hlen', hhist, hans⟩, hcounts, hw, _, rfl, hlo, hhi, ?_⟩)
      show saturatingSucc 4 ses.accepted ≤ 4
      unfold saturatingSucc
      split <;> omega
    · exact hs.protocolError p
  · split
    · split
      · split
        · rename_i hroom; exact hs.queueAnswer h hroom _
        · exact hs
      · exact hs
    · split
      · rename_i hroom; exact hs.queueAnswer h hroom _
      · exact hs

theorem arriveIngress (p : PortId) (f : IngressFrame) : (s.arriveIngress p f).portsCoherent := by
  unfold State.arriveIngress
  dsimp only
  split
  · exact hs
  · exact hs
  · exact hs
  · rename_i h
    split
    · exact hs
    · rename_i ses hses
      split
      · exact hs.checkSequence f h hses
      · exact hs

/-! Windows. -/

theorem setWindow {p : PortId} {w : Window} (h : (s.port p).state = .active) (hw : w.bounded) :
    (s.setWindow p w).portsCoherent :=
  hs.setPort (PortLink.withWindow_coherent (hs p) h hw)

theorem takeAck {p : PortId} (a : AckFrame) (h : (s.port p).state = .active) : (s.takeAck p a).portsCoherent := by
  have hw := (hs p).bounded
  unfold State.takeAck
  dsimp only
  split
  · obtain ⟨hout, -, hrest⟩ := hw
    exact hs.setWindow h ⟨hout, Nat.min_le_left _ _, hrest⟩
  · split
    · exact hs.protocolError p
    · have hports : ∀ l, (s.completeAll l).ports = s.ports := fun l => s.completeAll_ports l
      refine (State.portsCoherent_of_ports hs (hports _)).setWindow ?_ (Window.progress_bounded hw _ _ _)
      rw [State.port_of_ports (hports _)]
      exact h

theorem arriveAck (p : PortId) (a : AckFrame) : (s.arriveAck p a).portsCoherent := by
  unfold State.arriveAck
  dsimp only
  split
  · exact hs
  · exact hs
  · exact hs
  · rename_i h
    split
    · exact hs
    · split
      · exact hs.takeAck a h
      · exact hs

/-- A timer runs on an ACTIVE port alone. -/
theorem active_of_timer {p : PortId} {n : Nat} (h : (s.port p).window.timer = some n) : (s.port p).state = .active := by
  by_contra k
  obtain ⟨-, -, -, -, -, -, ht, -⟩ := (hs p).emptied k
  exact absurd (h.symm.trans ht) (Option.some_ne_none n)

theorem expire (p : PortId) : (s.expire p).portsCoherent := by
  unfold State.expire
  split
  · rename_i hdue
    have ht : (s.port p).window.timer = some 0 := eq_of_beq hdue
    have hx := hs.active_of_timer ht
    dsimp only
    split
    · exact hs.fence .retries (Nat.le_of_lt ((hs p).below (by simp [hx])))
    · rename_i hlimit
      obtain ⟨hout, hcredit, -, hretry, hack, htimer⟩ := (hs p).bounded
      have hne : (s.port p).window.outstanding ≠ [] := fun k => by simp [htimer.2 k] at ht
      have hcount : (s.port p).window.retryCount + 1 ≤ (s.port p).window.retryLimit := Nat.le_of_not_lt hlimit
      exact hs.setWindow hx ⟨hout, hcredit, Nat.le_trans hcount hretry, hretry, hack,
        (fun k => absurd k (Option.some_ne_none _)), fun k => absurd k hne⟩
  · exact hs

theorem passUnit : s.passUnit.portsCoherent := by
  have htick : s.tick.portsCoherent := fun p => by
    rw [State.port, State.tick_ports, Bank.get_mapIdx]
    exact PortLink.tick_coherent (hs p)
  have hall : ∀ (l : List PortId) (t : State), t.portsCoherent → (t.expireAll l).portsCoherent := by
    intro l
    induction l with
    | nil => exact fun _ ht => ht
    | cons p r ih => exact fun t ht => ih _ (ht.expire p)
  exact hall _ _ htick

theorem select (p : PortId) : (s.select p).portsCoherent := by
  rcases s.select_cases p with e | ⟨q, turn, x, e, r, sch, hready, -, -, he, -⟩
  · rw [e]; exact hs
  · rw [he]
    obtain ⟨frames, hf⟩ := State.transmit_ports
      ((s.setQueue p q { x with list := r, outstanding := x.outstanding + 1 }).setScheduler p sch) p e.ref
    have hports : ((s.setQueue p q { x with list := r, outstanding := x.outstanding + 1 }).setScheduler p sch).ports =
      s.ports := rfl
    simp only [State.selectionReady, Bool.and_eq_true, decide_eq_true_eq, beq_iff_eq] at hready
    obtain ⟨⟨⟨-, hx⟩, hlen⟩, -⟩ := hready
    exact State.portsCoherent_of_setPorts hs hf
      (PortLink.withWindow_coherent (hs p) hx (Window.selected_bounded (hs p).bounded hlen _ _))

end State.portsCoherent

/-! ### Takings -/

/-- Coherent ports, with port p ready to be answered: ACTIVE, its answer list not full. -/
def State.answerable (s : State) (p : PortId) : Prop :=
  s.portsCoherent ∧ (s.port p).state = .active ∧ (s.port p).answers.length < 8

theorem State.answerable_of_ports {s t : State} {p : PortId} (hs : s.answerable p) (h : t.ports = s.ports) :
    t.answerable p := by
  obtain ⟨hc, hx, hlen⟩ := hs
  exact ⟨State.portsCoherent_of_ports hc h, by rw [State.port_of_ports h]; exact hx,
    by rw [State.port_of_ports h]; exact hlen⟩

/-- Another port, or the window and counts of port p, may change before the answer. -/
theorem State.answerable.setPorts {s t : State} {p u : PortId} {x : PortLink} (hs : s.answerable p)
    (h : t.ports = Bank.set s.ports u x) (hx : x.coherent)
    (hself : p = u → x.state = (s.port u).state ∧ x.answers = (s.port u).answers) : t.answerable p := by
  obtain ⟨hc, ha, hlen⟩ := hs
  refine ⟨State.portsCoherent_of_setPorts hc h hx, ?_⟩
  rw [State.port_of_setPorts h]
  split
  · rename_i e
    obtain ⟨hst, hans⟩ := hself e
    rw [hst, hans, ← e]
    exact ⟨ha, hlen⟩
  · exact ⟨ha, hlen⟩

theorem State.answerable.produceAnswer {s : State} {p : PortId} (hs : s.answerable p) (a : Answer) :
    (s.produceAnswer p a).portsCoherent := by
  obtain ⟨hc, ha, hlen⟩ := hs
  exact hc.setPort (PortLink.answered_coherent (hc p) ha hlen a)

theorem State.answerable.answerMalformed {s : State} {p : PortId} (hs : s.answerable p) (f : IngressFrame) :
    (s.answerMalformed p f).portsCoherent :=
  (hs.produceAnswer _).protocolError p

theorem State.answerable_of_takeHeadFrame {s s' : State} {p : PortId} {kind : FrameKind} {f : IngressFrame}
    (hs : s.portsCoherent) (h : s.takeHeadFrame p kind = some (f, s')) : s'.answerable p := by
  obtain ⟨rest, hin, -, hroom, rfl⟩ := (State.takeHeadFrame_eq_some s p kind f s').1 h
  obtain ⟨hpop, hx⟩ := PortLink.popped_coherent (hs p) hin
  exact ⟨hs.setPort hpop, by rw [State.port_setPort_self]; exact hx,
    by rw [State.port_setPort_self]; exact of_decide_eq_true hroom⟩

theorem State.portsCoherent.admission {s : State} (hs : s.portsCoherent) (p : PortId) :
    ∃ t, execAdmission p s = .next t ∧ t.portsCoherent := by
  unfold execAdmission
  split
  · exact ⟨_, rfl, hs⟩
  · rename_i f s' ht
    have hans := State.answerable_of_takeHeadFrame hs ht
    refine ⟨_, rfl, ?_⟩
    unfold State.answerMessage
    split
    · exact (hans.produceAnswer _).protocolError p
    · split
      · exact hans.produceAnswer _
      · exact (State.answerable_of_ports hans (s'.commitMessage_ports p _ _)).produceAnswer _

theorem State.portsCoherent.takeUnknown {s : State} (hs : s.portsCoherent) (p : PortId) :
    (s.takeUnknown p).portsCoherent := by
  unfold State.takeUnknown
  split
  · exact hs
  · rename_i f s' ht
    have hans := State.answerable_of_takeHeadFrame hs ht
    split
    · split
      · exact hs
      · split
        · exact hans.produceAnswer _
        · exact hans.answerMalformed f
    · exact hs

/-- A request keeps the ports coherent when its owning rule leaves its port answerable. -/
theorem State.portsCoherent.take {α : Type} (r : Request α) {s : State} (hs : s.portsCoherent) (p : PortId)
    (hwork : ∀ (s : State) (a : α), r.permitted s p a = true → r.inRange a = true → s.answerable p →
      (r.work s p a).state.answerable p)
    (hfinish : ∀ s : State, s.portsCoherent → (r.finish s p).portsCoherent) : (r.take p s).portsCoherent := by
  have hdecide : ∀ (s : State) (a : α), s.answerable p → (r.decide s p a).state.answerable p := by
    intro s a ha
    rcases r.decide_cases s p a with ⟨status, -, -, hd⟩ | ⟨-, h4, h5, hd⟩
    · rw [hd]; exact ha
    · rw [hd]; exact hwork s a h4 h5 ha
  unfold Request.take
  split
  · exact hs
  · rename_i f s' ht
    have hans := State.answerable_of_takeHeadFrame hs ht
    split
    · split
      · unfold Request.answer
        split
        · exact hans.answerMalformed f
        · rename_i a _
          have hr := (hdecide s' a hans).produceAnswer
            (.response f.session f.seq (r.decide s' p a).status (r.decide s' p a).result)
          dsimp only
          split
          · exact hfinish _ hr
          · exact hr
      · exact hs
    · exact hs

/-- A request whose owning rule leaves the ports alone. -/
theorem State.portsCoherent.take_of_ports {α : Type} (r : Request α) {s : State} (hs : s.portsCoherent) (p : PortId)
    (hwork : ∀ (s : State) (a : α), (r.work s p a).state.ports = s.ports)
    (hfinish : r.finish = fun s _ => s) : (r.take p s).portsCoherent :=
  hs.take r p (fun s a _ _ ha => State.answerable_of_ports ha (hwork s a)) (fun s h => by rw [hfinish]; exact h)

/-! The four owning rules that change a port, and CLEAR TABLES. -/

theorem State.answerable.setTiming {s : State} {p : PortId} (hs : s.answerable p) (u : PortId) {a r : Nat}
    (ha : 1 ≤ a) (hr : r ≤ 7) : (s.setTiming u a r).state.answerable p := by
  refine hs.setPorts (u := u) rfl ?_ (fun _ => ⟨rfl, rfl⟩)
  obtain ⟨hc, -⟩ := hs
  obtain ⟨hin, hhist, hans, hcrc, hlimit, ⟨hout, hcredit, hcount, -, -, htimer⟩, hrest⟩ := hc u
  exact ⟨hin, hhist, hans, hcrc, hlimit, ⟨hout, hcredit, hcount, hr, ha, htimer⟩, hrest⟩

theorem State.answerable.releasePort {s : State} {p : PortId} (hs : s.answerable p) (u : PortId) :
    (s.releasePort u).state.answerable p := by
  unfold State.releasePort
  dsimp only
  split
  · rename_i hf
    obtain ⟨hc, ha, -⟩ := id hs
    have hu := hc u
    obtain ⟨-, hlimit, -⟩ := hu.settled
    refine hs.setPorts (u := u) rfl
      (PortLink.coherent_idle (y := { s.port u with state := .idle, protocolErrors := 0 }) hu.settled
        (hu.emptied (by simp [hf])) rfl hu.answers_le hlimit)
      (fun e => ?_)
    rw [e, hf] at ha
    exact nomatch ha
  · exact hs

theorem State.answerable.setPortLimit {s : State} {p : PortId} (hs : s.answerable p) (u : PortId) {n : Nat}
    (hn : 1 ≤ n) (b : Bool) : (s.setPortLimit u n b).state.answerable p := by
  refine hs.setPorts (u := u) rfl ?_ (fun _ => ⟨rfl, rfl⟩)
  obtain ⟨hc, -⟩ := hs
  obtain ⟨hin, hhist, hans, hcrc, -, hw, hses, hiff, hquiet, hclosed, hfenced, -⟩ := hc u
  refine ⟨hin, hhist, hans, ?_, hn, hw, hses, hiff, hquiet, hclosed, fun k => ⟨Nat.zero_le n, (hfenced k).2⟩,
    fun _ => hn⟩
  cases b
  · exact hcrc
  · exact Nat.zero_le 65535

theorem State.answerable.evictStation {s : State} {p : PortId} (hs : s.answerable p) {u : PortId} (hne : u ≠ p) :
    (s.evictStation p u).state.answerable p := by
  rcases s.evictStation_ports p u with e | ⟨hx, e⟩
  · exact State.answerable_of_ports hs e
  · obtain ⟨hc, -⟩ := id hs
    have hu := hc u
    exact hs.setPorts e
      (PortLink.coherent_idle (y := { (s.port u).withoutSession with state := .idle, linkReply := none }) hu.settled
        (s.port u).withoutSession_emptied rfl (Nat.zero_le 8) (hu.below (by simp [hx])))
      (fun k => absurd k.symm hne)

theorem State.portsCoherent.clearTables {s : State} (hs : s.portsCoherent) (t : StationId) :
    (s.clearTables t).portsCoherent := fun p => by
  show (Bank.get (Bank.mapIdx s.ports (fun u x => x.cleared (u == t))) p).coherent
  rw [Bank.get_mapIdx]
  exact PortLink.cleared_coherent (hs p) _

/-- What a request that names a port keeps for each of the eight. -/
theorem State.answerable.withStation {s : State} {p : PortId} (hs : s.answerable p) (n : Nat) (work : PortId → Reply)
    (hwork : ∀ u : PortId, n = u.val → (work u).state.answerable p) : (withStation s n work).state.answerable p :=
  withStation_keeps (P := fun t => t.answerable p) n work hwork hs

/-! ### Every command -/

theorem readLink_linkOpen {l : List Byte} {n : Nat} (h : readLink l = .linkOpen n) : 1 ≤ n ∧ n ≤ 15 := by
  unfold readLink at h
  repeat' split at h
  all_goals cases h
  assumption

theorem readFrame_linkOpen {l : List Byte} {n : Nat} (h : readFrame l = .linkOpen n) : 1 ≤ n ∧ n ≤ 15 := by
  unfold readFrame readIngress readAck at h
  repeat' split at h
  all_goals first | exact readLink_linkOpen h | cases h

/-- A readable LINK OPEN has a session number of 1 to 15 (R159). -/
theorem classify_linkOpen {content : List Byte} {n : Nat} (h : classify content = .linkOpen n) : 1 ≤ n ∧ n ≤ 15 := by
  unfold classify at h
  repeat' split at h
  all_goals first | exact readFrame_linkOpen h | cases h

/-- Every command answers a next state with coherent ports. -/
theorem State.portsCoherent.exec {s : State} (hs : s.portsCoherent) (c : Instr) :
    ∃ t, exec c s = .next t ∧ t.portsCoherent := by
  have hid : ∀ s : State, s.portsCoherent → s.portsCoherent := fun _ k => k
  cases c with
  | resetN =>
    refine ⟨_, rfl, fun p => ?_⟩
    rw [State.powerOn_port]
    exact PortLink.reset_coherent
  | signalDetect p => exact ⟨_, rfl, hs.detectSignal p⟩
  | signalLoss p => exact ⟨_, rfl, hs.loseSignal p⟩
  | crcErrorFrame p content =>
    show ∃ t, execCrcErrorFrame p content s = .next t ∧ _
    unfold execCrcErrorFrame
    split
    · exact ⟨_, rfl, hs.arriveCrcError p⟩
    · exact ⟨_, rfl, hs⟩
  | unreadableFrame p content =>
    show ∃ t, execUnreadableFrame p content s = .next t ∧ _
    unfold execUnreadableFrame
    split
    · exact ⟨_, rfl, hs.arriveUnreadable p⟩
    · exact ⟨_, rfl, hs.arriveUnreadable p⟩
    · exact ⟨_, rfl, hs⟩
  | linkOpen p content =>
    show ∃ t, execLinkOpen p content s = .next t ∧ _
    unfold execLinkOpen
    split
    · rename_i n hn
      exact ⟨_, rfl, hs.arriveLinkOpen p (classify_linkOpen hn)⟩
    · exact ⟨_, rfl, hs.arriveUnreadable p⟩
    · exact ⟨_, rfl, hs⟩
  | linkClose p content =>
    show ∃ t, execLinkClose p content s = .next t ∧ _
    unfold execLinkClose
    split
    · exact ⟨_, rfl, hs.arriveLinkClose p⟩
    · exact ⟨_, rfl, hs⟩
  | linkPing p content =>
    show ∃ t, execLinkPing p content s = .next t ∧ _
    unfold execLinkPing
    split
    · exact ⟨_, rfl, hs.arriveLinkPing p⟩
    · exact ⟨_, rfl, hs⟩
  | ingressArrival p content =>
    show ∃ t, execIngressArrival p content s = .next t ∧ _
    unfold execIngressArrival
    split
    · exact ⟨_, rfl, hs.arriveIngress p _⟩
    · exact ⟨_, rfl, hs⟩
  | ack p content =>
    show ∃ t, execAck p content s = .next t ∧ _
    unfold execAck
    split
    · exact ⟨_, rfl, hs.arriveAck p _⟩
    · exact ⟨_, rfl, hs⟩
  | admission p => exact hs.admission p
  | issueGrant p => exact ⟨_, rfl, hs.take_of_ports _ p (fun s a => s.issueGrant_ports p a) rfl⟩
  | dropGrant p => exact ⟨_, rfl, hs.take_of_ports _ p (fun s a => s.dropGrant_ports p a) rfl⟩
  | installGrant p =>
    exact ⟨_, rfl, hs.take_of_ports _ p (fun s a => withStation_ports _ _ (fun t => s.installInto_ports t a)) rfl⟩
  | readGrant p => exact ⟨_, rfl, hs.take_of_ports _ p (fun s a => withStation_ports _ _ (fun t => rfl)) rfl⟩
  | readFamily p =>
    exact ⟨_, rfl, hs.take_of_ports _ p (fun s a => congrArg State.ports (s.readFamily_state p a)) rfl⟩
  | openQueue p => exact ⟨_, rfl, hs.take_of_ports _ p (fun s a => s.openQueue_ports p a) rfl⟩
  | sealQueue p => exact ⟨_, rfl, hs.take_of_ports _ p (fun s a => s.changeSeal_ports p a _ _) rfl⟩
  | unsealQueue p => exact ⟨_, rfl, hs.take_of_ports _ p (fun s a => s.changeSeal_ports p a _ _) rfl⟩
  | setDepth p => exact ⟨_, rfl, hs.take_of_ports _ p (fun s a => s.setDepth_ports p a) rfl⟩
  | readQueue p => exact ⟨_, rfl, hs.take_of_ports _ p (fun s a => withStation_ports _ _ (fun t => rfl)) rfl⟩
  | readPool p => exact ⟨_, rfl, hs.take_of_ports _ p (fun s a => rfl) rfl⟩
  | setBand p => exact ⟨_, rfl, hs.take_of_ports _ p (fun s a => s.setBand_ports p a) rfl⟩
  | setQuanta p => exact ⟨_, rfl, hs.take_of_ports _ p (fun s a => rfl) rfl⟩
  | setDeliveryTiming p =>
    refine ⟨_, rfl, hs.take _ p (fun s a _ h5 k => k.withStation _ _ (fun u _ => ?_)) hid⟩
    simp only [setDeliveryTimingRequest, Bool.and_eq_true, decide_eq_true_eq] at h5
    obtain ⟨⟨-, ha⟩, hr⟩ := h5
    exact k.setTiming u ha hr
  | revokeFamily p => exact ⟨_, rfl, hs.take_of_ports _ p (fun s a => s.revokeFamily_ports p a) rfl⟩
  | purgeQueue p =>
    exact ⟨_, rfl, hs.take_of_ports _ p (fun s a => withStation_ports _ _ (fun t => s.purgeQueue_ports p t _)) rfl⟩
  | evictStation p =>
    refine ⟨_, rfl, hs.take _ p (fun s a h4 _ k => k.withStation _ _ (fun u hu => ?_)) hid⟩
    obtain ⟨-, hne⟩ : s.holdsManage p = true ∧ a ≠ p.val := by simpa [evictStationRequest] using h4
    exact k.evictStation (fun e => hne (hu.trans (congrArg Fin.val e)))
  | readSweep p => exact ⟨_, rfl, hs.take_of_ports _ p (fun s a => rfl) rfl⟩
  | releasePort p =>
    exact ⟨_, rfl, hs.take _ p (fun s a _ _ k => k.withStation _ _ (fun u _ => k.releasePort u)) hid⟩
  | readPort p => exact ⟨_, rfl, hs.take_of_ports _ p (fun s a => withStation_ports _ _ (fun t => rfl)) rfl⟩
  | setPortLimit p =>
    refine ⟨_, rfl, hs.take _ p (fun s a _ h5 k => k.withStation _ _ (fun u _ => ?_)) hid⟩
    simp only [setPortLimitRequest, Bool.and_eq_true, decide_eq_true_eq] at h5
    exact k.setPortLimit u h5.2 _
  | enableStation p =>
    exact ⟨_, rfl, hs.take_of_ports _ p (fun s a => withStation_ports _ _ (fun t => s.enableStation_ports t a)) rfl⟩
  | setLimits p =>
    exact ⟨_, rfl, hs.take_of_ports _ p (fun s a => withStation_ports _ _ (fun t => s.setLimits_ports t a)) rfl⟩
  | setManage p =>
    exact ⟨_, rfl, hs.take_of_ports _ p (fun s a => withStation_ports _ _ (fun t => s.setManage_ports t _)) rfl⟩
  | readStation p => exact ⟨_, rfl, hs.take_of_ports _ p (fun s a => withStation_ports _ _ (fun t => rfl)) rfl⟩
  | readDevice p => exact ⟨_, rfl, hs.take_of_ports _ p (fun s a => rfl) rfl⟩
  | clearTables p => exact ⟨_, rfl, hs.take _ p (fun s a _ _ k => k) (fun s k => k.clearTables p)⟩
  | unknownRequest p => exact ⟨_, rfl, hs.takeUnknown p⟩
  | selection p => exact ⟨_, rfl, hs.select p⟩
  | expiry p => exact ⟨_, rfl, hs.expire p⟩
  | egressArbitration p => exact ⟨_, rfl, hs.setPort (PortLink.grantEgress_coherent (hs p) p)⟩
  | slotPassStep => exact ⟨_, rfl, State.portsCoherent_of_ports hs s.slotStep_ports⟩
  | queuePassStep => exact ⟨_, rfl, State.portsCoherent_of_ports hs s.queueStep_ports⟩

end Sys2Proof.Machine

namespace Sys2Proof.Proofs

open Sys2Proof.Machine

/-- Settles O56: a command changes one port at a time, but for the passing of time and CLEAR TABLES, and each such
change keeps a coherent port coherent; the stores never touch a port. -/
theorem stepsKeepPortsCoherent : Obligations.StepsKeepPortsCoherent := by
  intro s t hs ht
  unfold step at ht
  split at ht
  · cases ht
    exact hs.passUnit
  · rename_i c rest _
    obtain ⟨t', ht', hp⟩ := State.portsCoherent.exec (s := { s with pending := rest }) hs c
    rw [ht'] at ht
    cases ht
    exact hp

end Sys2Proof.Proofs
end

section
/-! PROOFS. One scheduler and the queues of its station: what joining, leaving, moving and serving do to the active lists
(R83 to R88, R95). -/

namespace Sys2Proof.Machine

/-! ### Active lists against the queues of a station -/

/-- The queue belongs into the active list of band b (R84). -/
def Queue.listedIn (x : Queue) (b : Band) : Prop := x.state ≠ .purging ∧ x.list ≠ [] ∧ x.band = b

/-- The active lists are those of the queues f, each queue once; an emptied band of 1 to 3 is settled (R84, R85). -/
def Scheduler.holds (sch : Scheduler) (f : Nat → Option Queue) : Prop :=
  (∀ b, (sch.active.get b).Nodup) ∧
  (∀ b q, q ∈ sch.active.get b ↔ ∃ x, f q = some x ∧ x.listedIn b) ∧
  ∀ d : DrrBand, sch.active.get d.band = [] → sch.deficit.get d = 0 ∧ ¬ (sch.visitOpen = true ∧ sch.pointer = d)

theorem State.listsActive_iff (s : State) (t : StationId) : s.listsActive t ↔ (s.scheduler t).holds (s.queue t) :=
  Iff.rfl

theorem Queue.not_listedIn_of_purging {x : Queue} (h : x.state = .purging) (b : Band) : ¬ x.listedIn b :=
  fun k => k.1 h

theorem Queue.not_listedIn_of_empty {x : Queue} (h : x.list = []) (b : Band) : ¬ x.listedIn b := fun k => k.2.1 h

theorem Queue.listedIn_iff {x : Queue} (hst : x.state ≠ .purging) (hl : x.list ≠ []) (b : Band) :
    x.listedIn b ↔ b = x.band := ⟨fun k => k.2.2.symm, fun k => ⟨hst, hl, k.symm⟩⟩

/-- A changed queue that is listed as before leaves the lists right. -/
theorem Scheduler.holds.update {sch : Scheduler} {f : Nat → Option Queue} (h : sch.holds f) (q : Nat) (y : Option Queue)
    (hy : ∀ b, (∃ x, y = some x ∧ x.listedIn b) ↔ ∃ x, f q = some x ∧ x.listedIn b) :
    sch.holds (Function.update f q y) := by
  obtain ⟨hnodup, hmem, hempty⟩ := h
  refine ⟨hnodup, fun b r => ?_, hempty⟩
  rw [hmem]
  by_cases hr : r = q
  · subst hr; rw [Function.update_self]; exact (hy b).symm
  · rw [Function.update_of_ne hr]

/-- A queue that is listed nowhere, before and after. -/
theorem Scheduler.holds.update_unlisted {sch : Scheduler} {f : Nat → Option Queue} (h : sch.holds f) (q : Nat)
    (y : Option Queue) (hf : ∀ x b, f q = some x → ¬ x.listedIn b) (hy : ∀ x b, y = some x → ¬ x.listedIn b) :
    sch.holds (Function.update f q y) :=
  h.update q y fun b =>
    ⟨fun ⟨x, hx, k⟩ => absurd k (hy x b hx), fun ⟨x, hx, k⟩ => absurd k (hf x b hx)⟩

theorem Scheduler.holds.not_mem {sch : Scheduler} {f : Nat → Option Queue} (h : sch.holds f) {q : Nat}
    (hf : ∀ x b, f q = some x → ¬ x.listedIn b) (b : Band) : q ∉ sch.active.get b := fun k => by
  obtain ⟨x, hx, hl⟩ := (h.2.1 b q).1 k
  exact hf x b hx hl

theorem Scheduler.holds.mem_iff {sch : Scheduler} {f : Nat → Option Queue} (h : sch.holds f) {q : Nat} {x : Queue}
    (hq : f q = some x) (b : Band) : q ∈ sch.active.get b ↔ x.listedIn b := by
  rw [h.2.1 b q, hq]
  exact ⟨fun ⟨y, hy, k⟩ => Option.some.inj hy ▸ k, fun k => ⟨x, rfl, k⟩⟩

theorem ActiveLists.get_set (a : ActiveLists) (b d : Band) (l : List Nat) :
    (a.set b l).get d = if d = b then l else a.get d := by
  split
  · rename_i e; rw [e, ActiveLists.get_set_self]
  · rename_i e; exact ActiveLists.get_set_ne _ _ e

theorem DrrCounts.get_set (c : DrrCounts) (b d : DrrBand) (n : Nat) :
    (c.set b n).get d = if d = b then n else c.get d := by
  split
  · rename_i e; rw [e, DrrCounts.get_set_self]
  · rename_i e; exact DrrCounts.get_set_ne _ _ e

theorem DrrBand.band_inj {b d : DrrBand} (h : b.band = d.band) : b = d := by
  cases b <;> cases d <;> first | rfl | cases h

@[simp] theorem DrrBand.drr_band (d : DrrBand) : d.band.drr = some d := by cases d <;> rfl

/-! ### Joining -/

/-- Queue q at the tail of band b's list (R84). -/
def Scheduler.joined (sch : Scheduler) (b : Band) (q : Nat) : Scheduler :=
  { sch with active := sch.active.set b (sch.active.get b ++ [q]) }

theorem State.joinActive_eq (s : State) (t : StationId) (b : Band) (q : Nat) :
    s.joinActive t b q = s.setScheduler t ((s.scheduler t).joined b q) := rfl

theorem Scheduler.holds.joined {sch : Scheduler} {f : Nat → Option Queue} (h : sch.holds f) {q : Nat} {y : Queue}
    (hf : ∀ x b, f q = some x → ¬ x.listedIn b) (hst : y.state ≠ .purging) (hl : y.list ≠ []) :
    (sch.joined y.band q).holds (Function.update f q (some y)) := by
  have hnot := h.not_mem hf
  obtain ⟨hnodup, hmem, hempty⟩ := h
  have hget : ∀ b, (sch.joined y.band q).active.get b =
      if b = y.band then sch.active.get y.band ++ [q] else sch.active.get b := fun b => ActiveLists.get_set ..
  refine ⟨fun b => ?_, fun b r => ?_, fun d hd => ?_⟩
  · rw [hget]
    split
    · exact List.nodup_append.2 ⟨hnodup _, List.nodup_singleton q, fun a ha c hc => by
        rw [List.mem_singleton.1 hc]; exact fun e => hnot _ (e ▸ ha)⟩
    · exact hnodup b
  · rw [hget]
    by_cases hr : r = q
    · subst hr
      rw [Function.update_self]
      by_cases hb : b = y.band
      · subst hb; simp [Queue.listedIn, hst, hl]
      · rw [if_neg hb]
        exact ⟨fun k => absurd k (hnot b), fun ⟨x, hx, k⟩ => absurd (Option.some.inj hx ▸ k.2.2).symm hb⟩
    · rw [Function.update_of_ne hr, ← hmem]
      split
      · rename_i hb; simp [hr, hb]
      · rfl
  · rw [hget] at hd
    split at hd
    · exact absurd hd (by simp)
    · exact hempty d hd

/-! ### Leaving -/

/-- Queue q out of band b's list, an emptied band settled (R84, R85). -/
def Scheduler.left (sch : Scheduler) (b : Band) (q : Nat) : Scheduler :=
  Scheduler.settleEmptied { sch with active := sch.active.set b ((sch.active.get b).filter (· != q)) } b

theorem State.leaveActive_eq (s : State) (t : StationId) (b : Band) (q : Nat) :
    s.leaveActive t b q = s.setScheduler t ((s.scheduler t).left b q) := rfl

theorem Scheduler.settleEmptied_active (sch : Scheduler) (b : Band) : (sch.settleEmptied b).active = sch.active := by
  unfold Scheduler.settleEmptied
  split
  · rfl
  · split <;> rfl

theorem Scheduler.settleEmptied_pointer (sch : Scheduler) (b : Band) : (sch.settleEmptied b).pointer = sch.pointer := by
  unfold Scheduler.settleEmptied
  split
  · rfl
  · split <;> rfl

/-- What a settled band loses, if its list is empty: its deficit and the visit open on it (R85). -/
theorem Scheduler.settleEmptied_drr (sch : Scheduler) (d : DrrBand) (h : sch.active.get d.band = []) :
    sch.settleEmptied d.band =
      { sch with deficit := sch.deficit.set d 0, visitOpen := sch.visitOpen && sch.pointer != d } := by
  simp [Scheduler.settleEmptied, h]

theorem Scheduler.settleEmptied_of_ne_nil (sch : Scheduler) (b : Band) (h : sch.active.get b ≠ []) :
    sch.settleEmptied b = sch := by
  unfold Scheduler.settleEmptied
  split
  · rfl
  · rw [if_neg (by simpa using h)]

theorem Scheduler.settleEmptied_b0 (sch : Scheduler) : sch.settleEmptied .b0 = sch := rfl

theorem Scheduler.left_active (sch : Scheduler) (b : Band) (q : Nat) (c : Band) :
    (sch.left b q).active.get c = if c = b then (sch.active.get b).filter (· != q) else sch.active.get c := by
  rw [Scheduler.left, Scheduler.settleEmptied_active, ActiveLists.get_set]

/-- The settling of an emptied band keeps the third rule of `holds`, and brings it about for that band (R85). -/
theorem Scheduler.settleEmptied_empty {sch : Scheduler} {b : Band}
    (h : ∀ d : DrrBand, d.band ≠ b → sch.active.get d.band = [] →
      sch.deficit.get d = 0 ∧ ¬ (sch.visitOpen = true ∧ sch.pointer = d)) (d : DrrBand)
    (hd : sch.active.get d.band = []) :
    (sch.settleEmptied b).deficit.get d = 0 ∧
      ¬ ((sch.settleEmptied b).visitOpen = true ∧ (sch.settleEmptied b).pointer = d) := by
  by_cases hdb : d.band = b
  · subst hdb
    rw [Scheduler.settleEmptied_drr sch d hd]
    refine ⟨DrrCounts.get_set_self .., ?_⟩
    simp only [Bool.and_eq_true, bne_iff_ne, ne_eq]
    exact fun k => k.1.2 k.2
  · obtain ⟨h0, hv⟩ := h d hdb hd
    unfold Scheduler.settleEmptied
    split
    · exact ⟨h0, hv⟩
    · rename_i e he
      have hde : d ≠ e := by
        rintro rfl
        cases b <;> cases d <;> first | exact hdb rfl | cases he
      split
      · refine ⟨(DrrCounts.get_set_ne _ _ hde).trans h0, ?_⟩
        simp only [Bool.and_eq_true]
        exact fun k => hv ⟨k.1.1, k.2⟩
      · exact ⟨h0, hv⟩

theorem Scheduler.holds.left {sch : Scheduler} {f : Nat → Option Queue} (h : sch.holds f) {q : Nat} {x y : Queue}
    (hq : f q = some x) (hy : ∀ b, ¬ y.listedIn b) : (sch.left x.band q).holds (Function.update f q (some y)) := by
  have hq_mem := h.mem_iff hq
  obtain ⟨hnodup, hmem, hempty⟩ := h
  refine ⟨fun b => ?_, fun b r => ?_, ?_⟩
  · rw [Scheduler.left_active]
    split
    · exact (hnodup _).filter _
    · exact hnodup b
  · rw [Scheduler.left_active]
    by_cases hr : r = q
    · subst hr
      have hno : ¬ ∃ z, Function.update f r (some y) r = some z ∧ z.listedIn b := by
        rw [Function.update_self]
        rintro ⟨z, hz, k⟩
        exact hy b (Option.some.inj hz ▸ k)
      refine iff_of_false (fun k => ?_) hno
      split at k
      · simp at k
      · rename_i hb
        exact hb ((hq_mem b).1 k).2.2.symm
    · rw [Function.update_of_ne hr, ← hmem]
      split
      · rename_i hb; simp [hr, hb]
      · rfl
  · intro d hd
    rw [Scheduler.left, Scheduler.settleEmptied_active] at hd
    refine Scheduler.settleEmptied_empty (fun e he hd' => ?_) d hd
    dsimp only at hd'
    rw [ActiveLists.get_set_ne _ _ he] at hd'
    exact hempty e hd'

/-! ### Serving -/

/-- The first queue of band b's list after its head entry is taken, r behind it (R40). -/
def Queue.served (x : Queue) (r : List ListEntry) : Queue := { x with list := r, outstanding := x.outstanding + 1 }

/-- The lists after the first queue of band b has turned; the third rule of `holds` is for the caller to say. -/
theorem Scheduler.holds.rotate {sch : Scheduler} {f : Nat → Option Queue} (h : sch.holds f) {b : Band} {q : Nat}
    {turn : List Nat} {x : Queue} {e : ListEntry} {r : List ListEntry} (hb : sch.active.get b = q :: turn)
    (hq : f q = some x) (hl : x.list = e :: r) {sch' : Scheduler}
    (hact : sch'.active = (sch.rotate b (!r.isEmpty)).active)
    (hempty : ∀ d : DrrBand, sch'.active.get d.band = [] →
      sch'.deficit.get d = 0 ∧ ¬ (sch'.visitOpen = true ∧ sch'.pointer = d)) :
    sch'.holds (Function.update f q (some (x.served r))) := by
  have hxl : x.listedIn b := (h.mem_iff hq b).1 (hb ▸ List.mem_cons_self)
  have hq_mem := h.mem_iff hq
  obtain ⟨hnodup, hmem, -⟩ := h
  obtain ⟨hqt, htn⟩ := List.nodup_cons.1 (hb ▸ hnodup b)
  have hget : ∀ c, sch'.active.get c =
      if c = b then (if r = [] then turn else turn ++ [q]) else sch.active.get c := by
    intro c
    rw [hact, Scheduler.rotate, hb]
    simp only [ActiveLists.get_set]
    cases r <;> rfl
  have hserved : ∀ c, (x.served r).listedIn c ↔ r ≠ [] ∧ c = b := fun c =>
    ⟨fun k => ⟨k.2.1, k.2.2.symm.trans hxl.2.2⟩, fun k => ⟨hxl.1, k.1, hxl.2.2.trans k.2.symm⟩⟩
  refine ⟨fun c => ?_, fun c w => ?_, hempty⟩
  · rw [hget]
    split
    · split
      · exact htn
      · exact List.nodup_append.2 ⟨htn, List.nodup_singleton q, fun a ha z hz => by
          rw [List.mem_singleton.1 hz]; exact fun k => hqt (k ▸ ha)⟩
    · exact hnodup c
  · rw [hget]
    by_cases hw : w = q
    · subst hw
      rw [Function.update_self]
      have hright : (∃ z, some (x.served r) = some z ∧ z.listedIn c) ↔ r ≠ [] ∧ c = b :=
        ⟨fun ⟨z, hz, k⟩ => (hserved c).1 (Option.some.inj hz ▸ k), fun k => ⟨_, rfl, (hserved c).2 k⟩⟩
      rw [hright]
      by_cases hc : c = b
      · rw [if_pos hc]
        by_cases hr : r = []
        · simp [hr, hqt]
        · simp [hr, hc]
      · rw [if_neg hc]
        exact iff_of_false (fun k => hc (((hq_mem c).1 k).2.2.symm.trans hxl.2.2)) (fun k => hc k.2)
    · rw [Function.update_of_ne hw, ← hmem]
      split
      · rename_i hc
        rw [hc, hb]
        split <;> simp [hw]
      · rfl

/-- Band 0 has no deficit and no visit: its turning leaves the bands of 1 to 3 as they are (R87). -/
theorem Scheduler.holds.strict {sch : Scheduler} {f : Nat → Option Queue} (h : sch.holds f) {q : Nat}
    {turn : List Nat} {x : Queue} {e : ListEntry} {r : List ListEntry} (hb : sch.active.b0 = q :: turn)
    (hq : f q = some x) (hl : x.list = e :: r) :
    (sch.rotate .b0 (!r.isEmpty)).holds (Function.update f q (some (x.served r))) := by
  have hb' : sch.active.get .b0 = q :: turn := hb
  refine h.rotate hb' hq hl rfl (fun d hd => ?_)
  have hne : d.band ≠ .b0 := by cases d <;> exact fun k => nomatch k
  have hempty := h.2.2 d
  rw [Scheduler.rotate, hb'] at hd ⊢
  rw [ActiveLists.get_set_ne _ _ hne] at hd
  exact hempty hd

/-- The turn has arrived at the band at the pointer: an arrival adds the quantum and opens the visit (R88 step 2). -/
def Scheduler.arrived (sch : Scheduler) (quanta : DrrCounts) : Scheduler :=
  if sch.visitOpen then sch
  else
    { sch with
      deficit := sch.deficit.set sch.pointer (sch.deficit.get sch.pointer + quanta.get sch.pointer), visitOpen := true }

theorem Scheduler.seek_succ (quanta : DrrCounts) (cost : DrrBand → Nat) (n : Nat) (sch : Scheduler) :
    Scheduler.seek quanta cost (n + 1) sch =
      if (sch.active.get sch.pointer.band).isEmpty then
        Scheduler.seek quanta cost n { sch with pointer := sch.pointer.following }
      else if cost sch.pointer ≤ (sch.arrived quanta).deficit.get sch.pointer then some (sch.pointer, sch.arrived quanta)
      else
        Scheduler.seek quanta cost n
          { sch.arrived quanta with visitOpen := false, pointer := sch.pointer.following } := rfl

@[simp] theorem Scheduler.arrived_active (sch : Scheduler) (quanta : DrrCounts) :
    (sch.arrived quanta).active = sch.active := by unfold Scheduler.arrived; split <;> rfl

@[simp] theorem Scheduler.arrived_pointer (sch : Scheduler) (quanta : DrrCounts) :
    (sch.arrived quanta).pointer = sch.pointer := by unfold Scheduler.arrived; split <;> rfl

@[simp] theorem Scheduler.arrived_visitOpen (sch : Scheduler) (quanta : DrrCounts) :
    (sch.arrived quanta).visitOpen = true := by
  unfold Scheduler.arrived
  split
  · assumption
  · rfl

theorem Scheduler.arrived_deficit_ne (sch : Scheduler) (quanta : DrrCounts) {d : DrrBand} (h : d ≠ sch.pointer) :
    (sch.arrived quanta).deficit.get d = sch.deficit.get d := by
  unfold Scheduler.arrived
  split
  · rfl
  · exact DrrCounts.get_set_ne _ _ h

/-- What `Scheduler.seek` finds: a band with a list, at the pointer, its visit open; the lists are as before (R88). -/
theorem Scheduler.holds.seek {quanta : DrrCounts} {cost : DrrBand → Nat} {f : Nat → Option Queue} :
    ∀ {fuel : Nat} {sch a : Scheduler} {b : DrrBand}, sch.holds f →
      Scheduler.seek quanta cost fuel sch = some (b, a) →
      a.holds f ∧ a.pointer = b ∧ a.active = sch.active ∧ sch.active.get b.band ≠ [] ∧ a.visitOpen = true := by
  intro fuel
  induction fuel with
  | zero => intro sch a b _ h; exact nomatch h
  | succ n ih =>
    intro sch a b hs h
    rw [Scheduler.seek_succ] at h
    obtain ⟨hnodup, hmem, hempty⟩ := id hs
    split at h
    · rename_i he
      have hnil : sch.active.get sch.pointer.band = [] := List.isEmpty_iff.1 he
      have hclosed : sch.visitOpen ≠ true := fun k => (hempty sch.pointer hnil).2 ⟨k, rfl⟩
      exact ih (sch := { sch with pointer := sch.pointer.following })
        ⟨hnodup, hmem, fun d hd => ⟨(hempty d hd).1, fun k => hclosed k.1⟩⟩ h
    · rename_i he
      have hnil : sch.active.get sch.pointer.band ≠ [] := fun k => he (List.isEmpty_iff.2 k)
      have harrived : ∀ (v : Bool) (c : DrrBand), (v = true → c = sch.pointer) →
          ({ sch.arrived quanta with visitOpen := v, pointer := c } : Scheduler).holds f := by
        intro v c hc
        refine ⟨fun b => sch.arrived_active quanta ▸ hnodup b, fun b q => sch.arrived_active quanta ▸ hmem b q,
          fun d hd => ?_⟩
        have hd' : sch.active.get d.band = [] := sch.arrived_active quanta ▸ hd
        have hne : d ≠ sch.pointer := fun e => hnil (e ▸ hd')
        exact ⟨(sch.arrived_deficit_ne quanta hne).trans (hempty d hd').1, fun k => hne (k.2.symm.trans (hc k.1))⟩
      split at h
      · cases h
        refine ⟨?_, by simp, by simp, hnil, by simp⟩
        have hself : ({ sch.arrived quanta with visitOpen := true, pointer := sch.pointer } : Scheduler) =
            sch.arrived quanta := by
          rw [← sch.arrived_visitOpen quanta, ← sch.arrived_pointer quanta]
        exact hself ▸ harrived true sch.pointer (fun _ => rfl)
      · obtain ⟨ha, hp, hact, hne, hv⟩ := ih (harrived false sch.pointer.following (fun k => nomatch k)) h
        exact ⟨ha, hp, hact.trans (sch.arrived_active quanta), sch.arrived_active quanta ▸ hne, hv⟩

theorem Scheduler.pay_active (sch : Scheduler) (b : DrrBand) (cost next : Nat) :
    (sch.pay b cost next).active = sch.active := by
  unfold Scheduler.pay
  dsimp only
  split
  · rfl
  · split <;> rfl

/-- A selection by deficit round robin turns the band that is served and pays for it; the others stay (R88). -/
theorem Scheduler.holds.drr {sch : Scheduler} {f : Nat → Option Queue} (h : sch.holds f) {b : DrrBand}
    {q : Nat} {turn : List Nat} {x : Queue} {e : ListEntry} {r : List ListEntry} (hp : sch.pointer = b)
    (hb : sch.active.get b.band = q :: turn) (hq : f q = some x) (hl : x.list = e :: r) (cost next : Nat) :
    ((sch.rotate b.band (!r.isEmpty)).pay b cost next).holds (Function.update f q (some (x.served r))) := by
  have hempty := h.2.2
  refine h.rotate hb hq hl (Scheduler.pay_active ..) (fun d hd => ?_)
  rw [Scheduler.pay_active] at hd
  have hrot : ∀ l, sch.rotate b.band l = { sch with active := (sch.rotate b.band l).active } := fun l => by
    rw [Scheduler.rotate, hb]
  by_cases hdb : d = b
  · subst hdb
    unfold Scheduler.pay
    dsimp only
    rw [if_pos (List.isEmpty_iff.2 hd)]
    exact ⟨DrrCounts.get_set_self .., fun k => nomatch k.1⟩
  · have hd' : sch.active.get d.band = [] := by
      rw [Scheduler.rotate, hb] at hd
      rwa [ActiveLists.get_set_ne _ _ (fun k => hdb (DrrBand.band_inj k))] at hd
    have h0 := (hempty d hd').1
    unfold Scheduler.pay
    dsimp only
    rw [hrot]
    have hget : ∀ n, (sch.deficit.set b n).get d = 0 := fun n => (DrrCounts.get_set_ne _ _ hdb).trans h0
    split
    · exact ⟨hget 0, fun k => nomatch k.1⟩
    · split
      · exact ⟨hget _, fun k => nomatch k.1⟩
      · exact ⟨hget _, fun k => hdb (k.2.symm.trans hp)⟩

end Sys2Proof.Machine
end

section
/-! PROOFS. The schedulers, the queues and the sweep under every command (R36, R83 to R91, R124), and the statement O58. -/

namespace Sys2Proof.Machine

/-! ### The queues and schedulers, and the sweep over them -/

/-- The part of `schedulersCoherent` that does not look at the sweep. -/
def State.queuesCoherent (s : State) : Prop :=
  (∀ t : StationId, Table.canonical (Bank.get s.queues t) = true) ∧
  (∀ t : StationId, (s.scheduler t).holds (s.queue t)) ∧ ∀ t : StationId, s.queuesFollowStation t

theorem State.schedulersCoherent_iff (s : State) :
    s.schedulersCoherent ↔ s.queuesCoherent ∧ s.sweepHoldsQueues :=
  ⟨fun ⟨hc, hl, hf, hsw⟩ => ⟨⟨hc, hl, hf⟩, hsw⟩, fun ⟨⟨hc, hl, hf⟩, hsw⟩ => ⟨hc, hl, hf, hsw⟩⟩

theorem State.queuesCoherent_of_eq {s t : State} (hs : s.queuesCoherent) (hq : t.queues = s.queues)
    (hsch : t.schedulers = s.schedulers) (hst : ∀ u, (t.station u).state = (s.station u).state) : t.queuesCoherent := by
  obtain ⟨hc, hl, hf⟩ := hs
  have hq' : t.queue = s.queue := by funext u; unfold State.queue; rw [hq]
  refine ⟨fun u => hq ▸ hc u, fun u => ?_, fun u => ?_⟩
  · rw [hq', State.scheduler, hsch]; exact hl u
  · have he : t.isEnabled u = s.isEnabled u := by unfold State.isEnabled; rw [hst]
    unfold State.queuesFollowStation
    rw [he, hq']
    exact hf u

theorem State.queue_of_setQueues {s t : State} {u : StationId} {q : Nat} {y : Queue}
    (h : t.queues = Bank.set s.queues u (Table.put (Bank.get s.queues u) q y)) (v : StationId) :
    t.queue v = if v = u then Function.update (s.queue u) q (some y) else s.queue v := by
  funext r
  rw [State.queue, h, Bank.get_set]
  split
  · rw [Table.find_put, Function.update_apply]; rfl
  · rfl

theorem State.scheduler_of_setSchedulers {s t : State} {u : StationId} {x : Scheduler}
    (h : t.schedulers = Bank.set s.schedulers u x) (v : StationId) :
    t.scheduler v = if v = u then x else s.scheduler v := by
  rw [State.scheduler, h, Bank.get_set]
  rfl

/-- One queue record of a station and its scheduler change together. -/
theorem State.queuesCoherent.update {s t : State} (hs : s.queuesCoherent) {u : StationId} {q : Nat} {y : Queue}
    {sch : Scheduler} (hq : t.queues = Bank.set s.queues u (Table.put (Bank.get s.queues u) q y))
    (hsch : t.schedulers = Bank.set s.schedulers u sch) (hst : ∀ v, (t.station v).state = (s.station v).state)
    (hlists : sch.holds (Function.update (s.queue u) q (some y)))
    (hopen : s.isEnabled u = true → q = 0 → y.state = .opened ∧ y.band = .b0)
    (hpurging : s.isEnabled u = false → y.state = .purging) : t.queuesCoherent := by
  obtain ⟨hc, hl, hf⟩ := hs
  have hqueue := State.queue_of_setQueues hq
  refine ⟨fun v => ?_, fun v => ?_, fun v => ?_⟩
  · rw [hq]; exact Bank.canonical_set _ _ _ hc (Table.canonical_put _ _ _ (hc u)) v
  · rw [hqueue, State.scheduler_of_setSchedulers hsch]
    split
    · exact hlists
    · exact hl v
  · have he : t.isEnabled v = s.isEnabled v := by unfold State.isEnabled; rw [hst]
    unfold State.queuesFollowStation
    rw [he, hqueue]
    split
    · rename_i e
      rw [e]
      obtain ⟨hon, hoff⟩ := hf u
      refine ⟨fun k => ?_, fun k r x hx => ?_⟩
      · by_cases h0 : q = 0
        · obtain ⟨h1, h2⟩ := hopen k h0
          exact ⟨y, by rw [h0, Function.update_self], h1, h2⟩
        · rw [Function.update_of_ne (Ne.symm h0)]; exact hon k
      · by_cases hr : r = q
        · rw [hr, Function.update_self] at hx; cases hx; exact hpurging k
        · rw [Function.update_of_ne hr] at hx; exact hoff k r x hx
    · exact hf v

/-- The same with the scheduler as it is, for a change that keeps state, band and listing of the queue. -/
theorem State.queuesCoherent.updateQueue {s t : State} (hs : s.queuesCoherent) {u : StationId} {q : Nat} {x y : Queue}
    (hx : s.queue u q = some x) (hq : t.queues = Bank.set s.queues u (Table.put (Bank.get s.queues u) q y))
    (hsch : t.schedulers = s.schedulers) (hst : ∀ v, (t.station v).state = (s.station v).state)
    (hstate : y.state = x.state) (hband : y.band = x.band)
    (hlist : x.state = .purging ∨ (y.list = [] ↔ x.list = [])) : t.queuesCoherent := by
  obtain ⟨-, hl, hf⟩ := id hs
  refine hs.update (sch := s.scheduler u) hq (by rw [hsch, State.scheduler, Bank.set_get_self]) hst ?_ ?_ ?_
  · refine (hl u).update q _ (fun b => ?_)
    rw [hx]
    have hiff : y.listedIn b ↔ x.listedIn b := by
      unfold Queue.listedIn
      rw [hstate, hband]
      rcases hlist with h | h
      · simp [h]
      · rw [ne_eq, ne_eq, ne_eq, h]
    simp [hiff]
  · intro he h0
    obtain ⟨z, hz, h1, h2⟩ := (hf u).1 he
    rw [h0, hz] at hx
    cases hx
    exact ⟨hstate.trans h1, hband.trans h2⟩
  · exact fun he => hstate.trans ((hf u).2 he q x hx)

theorem State.queuesCoherent.opened {s : State} (hs : s.queuesCoherent) {u : StationId} (h : s.isEnabled u = true) :
    ∃ x, s.queue u 0 = some x ∧ x.state = .opened ∧ x.band = .b0 := by
  obtain ⟨-, -, hf⟩ := hs
  exact (hf u).1 h

theorem State.queuesCoherent.purging {s : State} (hs : s.queuesCoherent) {u : StationId} (h : s.isEnabled u = false)
    {q : Nat} {x : Queue} (hx : s.queue u q = some x) : x.state = .purging := by
  obtain ⟨-, -, hf⟩ := hs
  exact (hf u).2 h q x hx

theorem State.queuesCoherent.enabled {s : State} (hs : s.queuesCoherent) {u : StationId} {q : Nat} {x : Queue}
    (hx : s.queue u q = some x) (hst : x.state ≠ .purging) : s.isEnabled u = true := by
  by_contra k
  exact hst (hs.purging (by simpa using k) hx)

theorem State.queuesCoherent.holds {s : State} (hs : s.queuesCoherent) (u : StationId) :
    (s.scheduler u).holds (s.queue u) := by
  obtain ⟨-, hl, -⟩ := hs
  exact hl u

/-- An entry joins the list of a queue that is not PURGING; the queue joins its band when its list was empty (R84). -/
theorem State.queuesCoherent.enlist {s t : State} (hs : s.queuesCoherent) {u : StationId} {q : Nat} {x y : Queue}
    (hx : s.queue u q = some x) (hnp : x.state ≠ .purging)
    (hq : t.queues = Bank.set s.queues u (Table.put (Bank.get s.queues u) q y))
    (hsch : t.schedulers =
      if x.list = [] then Bank.set s.schedulers u ((s.scheduler u).joined x.band q) else s.schedulers)
    (hst : ∀ v, (t.station v).state = (s.station v).state) (hstate : y.state = x.state) (hband : y.band = x.band)
    (hlist : y.list ≠ []) : t.queuesCoherent := by
  by_cases hl : x.list = []
  · rw [if_pos hl] at hsch
    have hnone : ∀ z b, s.queue u q = some z → ¬ z.listedIn b := fun z b hz =>
      Queue.not_listedIn_of_empty (Option.some.inj (hx.symm.trans hz) ▸ hl) b
    refine hs.update hq hsch hst (hband ▸ (hs.holds u).joined hnone (hstate ▸ hnp) hlist) (fun he h0 => ?_)
      (fun he => hstate.trans (hs.purging he hx))
    obtain ⟨z, hz, h1, h2⟩ := hs.opened he
    rw [h0, hz] at hx
    cases hx
    exact ⟨hstate.trans h1, hband.trans h2⟩
  · rw [if_neg hl] at hsch
    exact hs.updateQueue hx hq hsch hst hstate hband (Or.inr ⟨fun k => absurd k hlist, fun k => absurd k hl⟩)

/-! ### The sweep -/

/-- Queue (t, q) is PURGING with its mark clear (R132). -/
def State.unmarked (s : State) (t : StationId) (q : Nat) : Prop :=
  ∃ y, s.queue t q = some y ∧ y.state = .purging ∧ y.passComplete = false

/-- What a sweep of this subject finds (R124, R132, R135). -/
def State.holdsSubject (s : State) : SweepSubject → Prop
  | .revoke _ => True
  | .purge t q => q ≠ 0 ∧ s.unmarked t q
  | .evict t => (s.station t).state = .evicting

theorem State.sweepHoldsQueues_iff (s : State) :
    s.sweepHoldsQueues ↔ ∀ x ∈ s.sweep, s.holdsSubject x.subject ∧ x.subject.allows x.cursor := by
  refine forall_congr' fun x => imp_congr_right fun _ => ?_
  unfold State.holdsSubject SweepSubject.allows State.unmarked
  cases hsub : x.subject with
  | revoke f => cases hc : x.cursor <;> simp
  | purge t q => cases hc : x.cursor <;> simp [and_assoc]
  | evict t => cases hc : x.cursor <;> simp

/-- The sweep is the same, and what it may find is still there. -/
theorem State.sweepHoldsQueues_of {s t : State} (hs : s.sweepHoldsQueues) (hsweep : t.sweep = s.sweep)
    (hmark : ∀ u q, q ≠ 0 → s.unmarked u q → t.unmarked u q)
    (hev : ∀ u, (s.station u).state = .evicting → (t.station u).state = .evicting) : t.sweepHoldsQueues := by
  rw [State.sweepHoldsQueues_iff] at hs ⊢
  intro x hx
  rw [hsweep] at hx
  obtain ⟨hsub, hc⟩ := hs x hx
  refine ⟨?_, hc⟩
  unfold State.holdsSubject at hsub ⊢
  split at hsub
  · trivial
  · exact ⟨hsub.1, hmark _ _ hsub.1 hsub.2⟩
  · exact hev _ hsub

theorem State.sweepHoldsQueues_none {s : State} (h : s.sweep = none) : s.sweepHoldsQueues := fun x hx => by
  rw [h] at hx
  exact nomatch hx

theorem State.sweepHoldsQueues_some {s : State} {x : Sweep} (h : s.sweep = some x) (hsub : s.holdsSubject x.subject)
    (hc : x.subject.allows x.cursor) : s.sweepHoldsQueues := by
  rw [State.sweepHoldsQueues_iff]
  intro y hy
  rw [h] at hy
  cases hy
  exact ⟨hsub, hc⟩

/-- One queue record changes; if it was PURGING with its mark clear it still is. -/
theorem State.sweepHoldsQueues.update {s t : State} (hs : s.sweepHoldsQueues) {u : StationId} {q : Nat} {y : Queue}
    (hsweep : t.sweep = s.sweep) (hq : t.queues = Bank.set s.queues u (Table.put (Bank.get s.queues u) q y))
    (hst : ∀ v, (s.station v).state = .evicting → (t.station v).state = .evicting)
    (hy : q ≠ 0 → s.unmarked u q → y.state = .purging ∧ y.passComplete = false) : t.sweepHoldsQueues := by
  refine State.sweepHoldsQueues_of hs hsweep (fun v r hr hv => ?_) hst
  unfold State.unmarked
  rw [State.queue_of_setQueues hq]
  split
  · rename_i e
    subst e
    by_cases h : r = q
    · subst h
      rw [Function.update_self]
      exact ⟨y, rfl, hy hr hv⟩
    · rw [Function.update_of_ne h]; exact hv
  · exact hv

theorem State.not_unmarked {s : State} {u : StationId} {q : Nat} {x : Queue} (hx : s.queue u q = some x)
    (hst : x.state ≠ .purging) : ¬ s.unmarked u q := fun ⟨_, hz, h1, _⟩ =>
  hst (Option.some.inj (hx.symm.trans hz) ▸ h1)

/-! ### The shared operations on the queues -/

theorem State.placeReport_schedulers (s : State) (t : StationId) (q : Queue) (c : ReportContent) :
    (s.placeReport t q c).schedulers =
      if q.list = [] then Bank.set s.schedulers t ((s.scheduler t).joined q.band 0) else s.schedulers := by
  unfold State.placeReport
  dsimp only
  cases h : q.list with
  | nil => rfl
  | cons e r => rfl

theorem State.returnEntry_schedulers (s : State) (t : StationId) (q : Nat) (x : Queue) (e : EntryRef) (k : Nat) :
    (s.returnEntry t q x e k).schedulers =
      if x.list = [] then Bank.set s.schedulers t ((s.scheduler t).joined x.band q) else s.schedulers := by
  have hsch : (s.clearSeq e).schedulers = s.schedulers := by
    unfold State.clearSeq
    repeat' split
    all_goals rfl
  unfold State.returnEntry
  dsimp only
  cases h : x.list with
  | nil =>
    show Bank.set (s.clearSeq e).schedulers t (Scheduler.joined (Bank.get (s.clearSeq e).schedulers t) x.band q) = _
    rw [hsch]
    rfl
  | cons a r => exact hsch

theorem State.returnEntry_queues (s : State) (t : StationId) (q : Nat) (x : Queue) (e : EntryRef) (k : Nat) :
    (s.returnEntry t q x e k).queues =
      Bank.set s.queues t (Table.put (Bank.get s.queues t) q
        { x with list := x.list.take k ++ ⟨e, .returned⟩ :: x.list.drop k, outstanding := x.outstanding - 1 }) := by
  have hq : (s.clearSeq e).queues = s.queues := by
    unfold State.clearSeq
    repeat' split
    all_goals rfl
  unfold State.returnEntry
  dsimp only
  split <;>
  · show Bank.set (s.clearSeq e).queues t (Table.put (Bank.get (s.clearSeq e).queues t) q _) = _
    rw [hq]

/-- A PURGING queue leaves the records (R50). -/
theorem State.queuesCoherent.dropQueue {s : State} (hs : s.queuesCoherent) {u : StationId} {q : Nat} {x : Queue}
    (hx : s.queue u q = some x) (hst : x.state = .purging) : (s.dropQueue u q).queuesCoherent := by
  have hcan : ∀ t, Table.canonical (Bank.get s.queues t) = true := hs.1
  have hl : (s.dropQueue u q).queues = Bank.set s.queues u (Table.erase (Bank.get s.queues u) q) ∧
      (s.dropQueue u q).schedulers = s.schedulers ∧ (s.dropQueue u q).stations = s.stations := by
    unfold State.dropQueue
    dsimp only
    split <;> exact ⟨rfl, rfl, rfl⟩
  obtain ⟨hqs, hsch, hstn⟩ := hl
  have hqueue : ∀ v, (s.dropQueue u q).queue v = if v = u then Function.update (s.queue u) q none else s.queue v := by
    intro v
    funext r
    rw [State.queue, hqs, Bank.get_set]
    split
    · rw [Table.find_erase _ _ _ (hcan u), Function.update_apply]; rfl
    · rfl
  have hen : ∀ v, (s.dropQueue u q).isEnabled v = s.isEnabled v := fun v => by
    rw [State.isEnabled, State.station, hstn]; rfl
  refine ⟨fun v => ?_, fun v => ?_, fun v => ?_⟩
  · rw [hqs]; exact Bank.canonical_set _ _ _ hcan (Table.canonical_erase _ _ (hcan u)) v
  · rw [hqueue, State.scheduler, hsch]
    split
    · rename_i e
      subst e
      refine (hs.holds v).update_unlisted q none (fun z b hz => ?_) (fun z b hz => nomatch hz)
      exact Queue.not_listedIn_of_purging (Option.some.inj (hx.symm.trans hz) ▸ hst) b
    · exact hs.holds v
  · unfold State.queuesFollowStation
    rw [hen, hqueue]
    split
    · rename_i e
      subst e
      refine ⟨fun k => ?_, fun k r z hz => ?_⟩
      · obtain ⟨z, hz, h1, h2⟩ := hs.opened k
        by_cases h0 : q = 0
        · rw [h0, hz] at hx
          cases hx
          exact absurd (h1.symm.trans hst) (by decide)
        · rw [Function.update_of_ne (Ne.symm h0)]; exact ⟨z, hz, h1, h2⟩
      · by_cases hr : r = q
        · rw [hr, Function.update_self] at hz; exact nomatch hz
        · rw [Function.update_of_ne hr] at hz; exact hs.purging k hz
    · obtain ⟨-, -, hf⟩ := hs
      exact hf v

theorem State.queuesCoherent.settleQueue {s : State} (hs : s.queuesCoherent) (u : StationId) (q : Nat) :
    (s.settleQueue u q).queuesCoherent := by
  rcases s.settleQueue_cases u q with e | ⟨x, hx, hst, -, -, e⟩ <;> rw [e]
  · exact hs
  · exact hs.dropQueue hx hst

theorem State.sweepHoldsQueues.settleQueue {s : State} (hs : s.sweepHoldsQueues) (u : StationId) (q : Nat) :
    (s.settleQueue u q).sweepHoldsQueues := by
  refine State.sweepHoldsQueues_of hs (by simp) (fun v r hr hv => ?_) (fun v h => by rwa [State.settleQueue_station])
  rcases s.settleQueue_cases u q with e | ⟨x, hx, -, hpc, -, e⟩ <;> rw [e]
  · exact hv
  · obtain ⟨y, hy, h1, h2⟩ := hv
    have hne : ¬ (v = u ∧ r = q) := by
      rintro ⟨rfl, rfl⟩
      rw [hx] at hy
      cases hy
      rw [hpc] at h2
      exact nomatch h2
    refine ⟨y, ?_, h1, h2⟩
    rw [← hy]
    unfold State.dropQueue
    dsimp only
    have hfind : Table.find (Bank.get (Bank.set s.queues u (Table.erase (Bank.get s.queues u) q)) v) r =
        s.queue v r := by
      rw [Bank.get_set]
      split
      · rename_i e'
        rw [Table.find_erase_ne _ (fun k => hne ⟨e', k⟩), e']
        rfl
      · rfl
    split <;> exact hfind

theorem State.standing_state {s t : State} (h : ∀ u, (t.station u).standing = (s.station u).standing) (u : StationId) :
    (t.station u).state = (s.station u).state := Station.state_of_standing (h u)

/-- One entry less is held: the record keeps state, band, list and mark, and may then go (R46 step 4). -/
theorem State.releaseHeld_keeps {P : State → Prop}
    (hset : ∀ (s t : State) (u : StationId) (q : Nat) (x y : Queue), s.queue u q = some x →
      t.queues = Bank.set s.queues u (Table.put (Bank.get s.queues u) q y) → t.schedulers = s.schedulers →
      t.stations = s.stations → t.sweep = s.sweep → y.state = x.state → y.band = x.band → y.list = x.list →
      y.passComplete = x.passComplete → P s → P t)
    (hsettle : ∀ (s : State) (u : StationId) (q : Nat), P s → P (s.settleQueue u q))
    (s : State) (t : StationId) (q c : Nat) (pl : HeldPlace) (hs : P s) : P (s.releaseHeld t q c pl) := by
  unfold State.releaseHeld
  cases hx : s.queue t q with
  | none => exact hs
  | some x => exact hsettle _ _ _ (hset s _ t q x _ hx rfl rfl rfl rfl rfl rfl rfl rfl hs)

theorem queuesCoherent_grantBlind : GrantBlind State.queuesCoherent where
  grants _ _ _ _ _ h := h
  records _ _ _ _ _ _ h := h
  ports _ _ h := h
  callReport s t c h := by
    have hst := State.standing_state (fun u => s.standing_callReport t u c)
    rcases s.callReport_cases t c with ⟨-, e⟩ | ⟨q, he, hq, -, e⟩ | ⟨-, -, e⟩
    · rw [e]; exact h
    · rw [e] at hst ⊢
      obtain ⟨x, hx, hopen, -⟩ := h.opened he
      obtain rfl : q = x := Option.some.inj (hq.symm.trans hx)
      exact h.enlist hq (by simp [hopen]) (s.placeReport_queues t q c) (s.placeReport_schedulers t q c) hst rfl rfl
        (by simp)
    · rw [e] at hst ⊢
      exact State.queuesCoherent_of_eq h rfl rfl hst
  releaseHeld := State.releaseHeld_keeps
    (fun _ _ _ _ _ _ hx hq hsch hst _ h1 h2 h3 _ h =>
      h.updateQueue hx hq hsch (fun v => by rw [State.station, hst]; rfl) h1 h2 (Or.inr (by rw [h3])))
    (fun _ u q h => h.settleQueue u q)
  returnEntry s t q x e k hx hnp h :=
    h.enlist hx hnp (s.returnEntry_queues t q x e k) (s.returnEntry_schedulers t q x e k)
      (fun v => congrArg Station.state (s.returnEntry_station t q x e k v)) rfl rfl (by simp)

theorem sweepHoldsQueues_grantBlind : GrantBlind State.sweepHoldsQueues where
  grants _ _ _ _ _ h := h
  records _ _ _ _ _ _ h := h
  ports _ _ h := h
  callReport s t c h := by
    have hst : ∀ v, (s.station v).state = .evicting → ((s.callReport t c).station v).state = .evicting := fun v hv =>
      (State.standing_state (fun u => s.standing_callReport t u c) v).trans hv
    rcases s.callReport_cases t c with ⟨-, e⟩ | ⟨q, -, -, -, e⟩ | ⟨-, -, e⟩
    · rw [e]; exact h
    · rw [e] at hst ⊢
      exact h.update (by simp) (s.placeReport_queues t q c) hst (fun h0 => absurd rfl h0)
    · rw [e] at hst ⊢
      exact State.sweepHoldsQueues_of h rfl (fun _ _ _ k => k) hst
  releaseHeld := State.releaseHeld_keeps
    (fun _ _ _ _ _ _ hx hq _ hst hsw h1 _ _ h4 h => by
      refine h.update hsw hq (fun v hv => by rw [State.station, hst]; exact hv) (fun _ ⟨z, hz, k1, k2⟩ => ?_)
      rw [hx] at hz
      cases hz
      exact ⟨h1.trans k1, h4.trans k2⟩)
    (fun _ u q h => h.settleQueue u q)
  returnEntry s t q x e k hx hnp h :=
    h.update (by simp) (s.returnEntry_queues t q x e k)
      (fun v hv => by rw [State.returnEntry_station]; exact hv)
      (fun _ k => absurd k (State.not_unmarked hx hnp))

/-- Both parts survive what does not look at the grants (R84, R132). -/
theorem schedulersCoherent_grantBlind : GrantBlind State.schedulersCoherent where
  grants _ _ _ _ _ h := h
  records _ _ _ _ _ _ h := h
  ports _ _ h := h
  callReport s t c h := by
    rw [State.schedulersCoherent_iff] at h ⊢
    exact ⟨queuesCoherent_grantBlind.callReport s t c h.1, sweepHoldsQueues_grantBlind.callReport s t c h.2⟩
  releaseHeld s t q c pl h := by
    rw [State.schedulersCoherent_iff] at h ⊢
    exact ⟨queuesCoherent_grantBlind.releaseHeld s t q c pl h.1, sweepHoldsQueues_grantBlind.releaseHeld s t q c pl h.2⟩
  returnEntry s t q x e k hx hnp h := by
    rw [State.schedulersCoherent_iff] at h ⊢
    exact ⟨queuesCoherent_grantBlind.returnEntry s t q x e k hx hnp h.1,
      sweepHoldsQueues_grantBlind.returnEntry s t q x e k hx hnp h.2⟩

/-! ### Changes of one queue by an owning rule -/

/-- A queue that is not PURGING gets a record of the same band and listing that is not PURGING either, and for RQ 0 is
OPEN. -/
theorem State.schedulersCoherent.setQueue {s : State} (hs : s.schedulersCoherent) {u : StationId} {q : Nat}
    {x y : Queue} (hx : s.queue u q = some x) (hnp : x.state ≠ .purging) (hq : q ≠ 0) (hst : y.state ≠ .purging)
    (hband : y.band = x.band) (hlist : y.list = x.list) : (s.setQueue u q y).schedulersCoherent := by
  rw [State.schedulersCoherent_iff] at hs ⊢
  obtain ⟨hc, hsw⟩ := hs
  refine ⟨hc.update (sch := s.scheduler u) rfl (Bank.set_get_self ..).symm (fun _ => rfl) ?_ (fun _ h0 => absurd h0 hq)
    (fun k => absurd (hc.purging k hx) hnp), hsw.update rfl rfl (fun _ k => k)
      (fun _ k => absurd k (State.not_unmarked hx hnp))⟩
  refine (hc.holds u).update q _ (fun b => ?_)
  have hiff : y.listedIn b ↔ x.listedIn b := by
    unfold Queue.listedIn
    rw [hband, hlist]
    simp [hst, hnp]
  rw [hx]
  simp [hiff]

/-- Station states are as before. -/
theorem State.schedulersCoherent_of_setStation {s : State} (hs : s.schedulersCoherent) (t : StationId) (x : Station)
    (hx : x.state = (s.station t).state) : (s.setStation t x).schedulersCoherent := by
  have hst : ∀ v, ((s.setStation t x).station v).state = (s.station v).state := fun v => by
    rw [State.station_setStation]
    split
    · rename_i e; rw [e, hx]
    · rfl
  rw [State.schedulersCoherent_iff] at hs ⊢
  exact ⟨State.queuesCoherent_of_eq hs.1 rfl rfl hst,
    State.sweepHoldsQueues_of hs.2 rfl (fun _ _ _ k => k) (fun v k => (hst v).trans k)⟩

theorem State.openQueue_schedulersCoherent (s : State) (t : StationId) (a : Nat × Nat × Nat)
    (he : s.isEnabled t = true) (hs : s.schedulersCoherent) : (s.openQueue t a).state.schedulersCoherent := by
  unfold State.openQueue
  split
  · exact hs
  · rename_i band _
    dsimp only
    split
    · exact hs
    · rename_i hused
      split
      · exact hs
      · rw [State.schedulersCoherent_iff] at hs ⊢
        obtain ⟨hc, hsw⟩ := hs
        generalize hn : (if a.1 = 0 then Table.lowestFree (Bank.get s.queues t) 1 else a.1) = n
        have hfree : s.queue t n = none ∧ n ≠ 0 := by
          rw [← hn]
          split
          · exact ⟨Table.find_lowestFree _ _ (hc.1 t), Nat.pos_iff_ne_zero.1 (Table.le_lowestFree _ 1)⟩
          · rename_i h0
            exact ⟨by simpa [h0] using hused, h0⟩
        obtain ⟨hnone, h0⟩ := hfree
        refine ⟨hc.update (u := t) (q := n) (sch := s.scheduler t) rfl (Bank.set_get_self ..).symm (fun _ => rfl) ?_
          (fun _ k => absurd k h0) (fun k => by rw [he] at k; exact nomatch k), hsw.update (u := t) (q := n) rfl rfl (fun _ k => k) ?_⟩
        · exact (hc.holds t).update_unlisted n _ (fun z b hz => by rw [hnone] at hz; exact nomatch hz)
            (fun z b hz => Option.some.inj hz ▸ Queue.not_listedIn_of_empty rfl b)
        · rintro - ⟨z, hz, -⟩
          rw [hnone] at hz
          exact nomatch hz

theorem State.changeSeal_schedulersCoherent (s : State) (t : StationId) (q : Nat) (a b : QueueState)
    (ha : a ≠ .purging) (hb : b ≠ .purging) (hs : s.schedulersCoherent) :
    (s.changeSeal t q a b).state.schedulersCoherent := by
  unfold State.changeSeal
  split
  · exact hs
  · rename_i h0
    split
    · exact hs
    · rename_i x hx
      split
      · rename_i hst
        exact hs.setQueue hx (hst ▸ ha) h0 hb rfl rfl
      · exact hs

theorem State.setDepth_schedulersCoherent (s : State) (t : StationId) (a : Nat × Nat) (hs : s.schedulersCoherent) :
    (s.setDepth t a).state.schedulersCoherent := by
  unfold State.setDepth
  split
  · exact hs
  · rename_i h0
    split
    · exact hs
    · rename_i x hx
      split
      · exact hs
      · rename_i hst
        split
        · exact hs
        · exact hs.setQueue hx hst h0 hst rfl rfl

theorem State.inActive_iff (s : State) (t : StationId) (b : Band) (q : Nat) :
    s.inActive t b q = true ↔ q ∈ (s.scheduler t).active.get b := List.contains_iff_mem ..

/-- SET BAND: the queue leaves the list of its old band and joins that of the new one (R95). -/
theorem State.moveBand_schedulersCoherent {s : State} (hs : s.schedulersCoherent) {t : StationId} {q : Nat} {x : Queue}
    (hx : s.queue t q = some x) (h0 : q ≠ 0) (hnp : x.state ≠ .purging) (n : Band) :
    (s.moveBand t q x n).schedulersCoherent := by
  unfold State.moveBand
  dsimp only
  split
  · rename_i hn
    exact hs.setQueue hx hnp h0 hnp hn rfl
  · rename_i hn
    rw [State.schedulersCoherent_iff] at hs
    obtain ⟨hc, hsw⟩ := hs
    have hmem := (hc.holds t).mem_iff hx
    have hoff : s.isEnabled t = false → ({ x with band := n } : Queue).state = .purging := fun k =>
      hc.purging (x := x) k hx
    have hswept : ∀ v : State, v.sweep = s.sweep → v.stations = s.stations →
        v.queues = Bank.set s.queues t (Table.put (Bank.get s.queues t) q { x with band := n }) →
        v.sweepHoldsQueues := fun v h1 h2 h3 =>
      hsw.update h1 h3 (fun w k => by rw [State.station, h2]; exact k) (fun _ k => absurd k (State.not_unmarked hx hnp))
    by_cases hin : s.inActive t x.band q = true
    · rw [if_pos hin, State.schedulersCoherent_iff]
      have hlisted : x.listedIn x.band := (hmem _).1 ((s.inActive_iff t x.band q).1 hin)
      have hsch : ((s.scheduler t).left x.band q).joined n q =
          (((((s.setQueue t q { x with band := n }).leaveActive t x.band q).joinActive t n q)).scheduler t) := by
        rw [State.joinActive_eq, State.scheduler_setScheduler_self, State.leaveActive_eq,
          State.scheduler_setScheduler_self]
        rfl
      refine ⟨hc.update (u := t) (q := q) (y := { x with band := n }) rfl
        (sch := ((s.scheduler t).left x.band q).joined n q) ?_ (fun _ => rfl) ?_ (fun _ k => absurd k h0) hoff,
        hswept _ rfl rfl rfl⟩
      · rw [hsch]
        simp [State.joinActive_eq, State.leaveActive_eq]
      · have hleft := (hc.holds t).left hx (y := { x with list := [] }) (Queue.not_listedIn_of_empty rfl)
        have hjoin := hleft.joined (q := q) (y := { x with band := n })
          (fun z b hz => by
            rw [Function.update_self] at hz
            exact Option.some.inj hz ▸ Queue.not_listedIn_of_empty rfl b) hnp hlisted.2.1
        rwa [Function.update_idem] at hjoin
    · rw [if_neg hin, State.schedulersCoherent_iff]
      have hempty : ∀ b, ¬ x.listedIn b := fun b k => hin ((s.inActive_iff t x.band q).2 ((hmem _).2 ⟨k.1, k.2.1, rfl⟩))
      refine ⟨hc.update (sch := s.scheduler t) rfl (Bank.set_get_self ..).symm (fun _ => rfl) ?_
        (fun _ k => absurd k h0) hoff, hswept _ rfl rfl rfl⟩
      exact (hc.holds t).update_unlisted q _ (fun z b hz => Option.some.inj (hx.symm.trans hz) ▸ hempty b)
        (fun z b hz => Option.some.inj hz ▸ fun k => hempty x.band ⟨k.1, k.2.1, rfl⟩)

theorem State.setBand_schedulersCoherent (s : State) (t : StationId) (a : Nat × Nat) (hs : s.schedulersCoherent) :
    (s.setBand t a).state.schedulersCoherent := by
  unfold State.setBand
  split
  · exact hs
  · split
    · exact hs
    · rename_i h0
      split
      · exact hs
      · rename_i x hx
        split
        · exact hs
        · rename_i hnp
          exact State.moveBand_schedulersCoherent hs hx h0 hnp _

end Sys2Proof.Machine
end

section
/-! PROOFS. Selections, sweeps and station requests keep the schedulers, the queues and the sweep in agreement, and the
statement O58. -/

namespace Sys2Proof.Machine

/-! ### Admissions and selections -/

theorem State.claimedRecord_keeps {P : State → Prop} (h : GrantBlind P) {s : State} (t : StationId)
    (m : MessageRequest) (c : AdmissionContext) (hs : P s) : P (s.claimedRecord t m c) :=
  h.records _ _ _ _ _ _ (h.attachGrant t m.attach (h.spend t m.slot 1 hs))

theorem State.raiseLive_queue (s : State) (f : Nat) (u : StationId) (q : Nat) :
    (s.raiseLive f).queue u q = s.queue u q := by
  unfold State.raiseLive
  split <;> rfl

theorem State.spend_queue (s : State) (t : StationId) (n b : Nat) (u : StationId) (q : Nat) :
    (s.spend t n b).queue u q = s.queue u q := by
  unfold State.spend
  split <;> rfl

theorem State.attachGrant_queue (s : State) (t : StationId) (a : Option Attach) (u : StationId) (q : Nat) :
    (s.attachGrant t a).1.queue u q = s.queue u q := by
  unfold State.attachGrant
  repeat' split
  · rfl
  · rfl
  · exact (State.raiseLive_queue ..).trans (s.spend_queue ..)
  · rfl
  · rfl

theorem State.claimedRecord_queue (s : State) (t : StationId) (m : MessageRequest) (c : AdmissionContext)
    (u : StationId) (q : Nat) : (s.claimedRecord t m c).queue u q = s.queue u q :=
  ((s.spend t m.slot 1).attachGrant_queue t m.attach u q).trans (s.spend_queue t m.slot 1 u q)

theorem insertAdmitted_ne_nil (l : List ListEntry) (e : ListEntry) : insertAdmitted l e ≠ [] := by
  unfold insertAdmitted
  split <;> simp

theorem State.enqueued_schedulers (s : State) (t : StationId) (q : Nat) (x : Queue) (e : ListEntry) (n : Nat) :
    (s.enqueued t q x e n).schedulers =
      if x.list = [] then Bank.set s.schedulers t ((s.scheduler t).joined x.band q) else s.schedulers := by
  unfold State.enqueued
  dsimp only
  cases x.list with
  | nil => rfl
  | cons a r => rfl

theorem State.enqueued_queues (s : State) (t : StationId) (q : Nat) (x : Queue) (e : ListEntry) (n : Nat) :
    (s.enqueued t q x e n).queues =
      Bank.set s.queues t (Table.put (Bank.get s.queues t) q
        { x with list := insertAdmitted x.list e, heldMessages := x.heldMessages + 1, heldCells := x.heldCells + n }) := by
  unfold State.enqueued
  dsimp only
  split <;> rfl

theorem State.enqueued_rest (s : State) (t : StationId) (q : Nat) (x : Queue) (e : ListEntry) (n : Nat) :
    (s.enqueued t q x e n).stations = s.stations ∧ (s.enqueued t q x e n).sweep = s.sweep := by
  unfold State.enqueued
  dsimp only
  split <;> exact ⟨rfl, rfl⟩

theorem State.commitMessage_schedulersCoherent (s : State) (t : StationId) (m : MessageRequest) (c : AdmissionContext)
    (hc : s.admissionChecks t m = .ok c) (hs : s.schedulersCoherent) : (s.commitMessage t m c).schedulersCoherent := by
  obtain ⟨-, -, -, -, hq, hopen, -⟩ := State.admissionChecks_ok hc
  have hnp : c.queue.state ≠ .purging := by simp [hopen]
  have hr := State.claimedRecord_keeps schedulersCoherent_grantBlind t m c hs
  rw [← s.claimedRecord_queue t m c] at hq
  rw [State.schedulersCoherent_iff] at hr ⊢
  rw [State.commitMessage_eq]
  generalize s.claimedRecord t m c = a at hq hr
  obtain ⟨hcoh, hsw⟩ := hr
  obtain ⟨hst, hsweep⟩ := a.enqueued_rest c.family.issuer c.family.target c.queue
    ⟨.message (Table.lowestFree ((s.spend t m.slot 1).attachGrant t m.attach).1.descriptors 0),
      if m.expedite then .expedited else .normal⟩ (cellsOf m.payload.length)
  exact ⟨hcoh.enlist hq hnp (a.enqueued_queues ..) (a.enqueued_schedulers ..)
      (fun v => by rw [State.station, hst]; rfl) rfl rfl (insertAdmitted_ne_nil _ _),
    hsw.update hsweep (a.enqueued_queues ..) (fun v k => by rw [State.station, hst]; exact k)
      (fun _ k => absurd k (State.not_unmarked hq hnp))⟩

/-- The queue that a selection serves is not PURGING, and its turn keeps the lists right. -/
theorem State.served_schedulersCoherent {s : State} (hs : s.schedulersCoherent) {p : PortId} {q : Nat} {x : Queue}
    {r : List ListEntry} {sch : Scheduler} (hx : s.queue p q = some x) (hnp : x.state ≠ .purging)
    (hlists : sch.holds (Function.update (s.queue p) q (some (x.served r)))) :
    ((s.setQueue p q (x.served r)).setScheduler p sch).schedulersCoherent := by
  rw [State.schedulersCoherent_iff] at hs ⊢
  obtain ⟨hc, hsw⟩ := hs
  refine ⟨hc.update (u := p) (q := q) (y := x.served r) rfl rfl (fun _ => rfl) hlists (fun he h0 => ?_)
      (fun k => hc.purging (x := x) k hx),
    hsw.update (u := p) (q := q) (y := x.served r) rfl rfl (fun _ k => k)
      (fun _ k => absurd k (State.not_unmarked hx hnp))⟩
  obtain ⟨z, hz, h1, h2⟩ := hc.opened he
  rw [h0, hz] at hx
  cases hx
  exact ⟨h1, h2⟩

theorem State.select_schedulersCoherent (s : State) (p : PortId) (hs : s.schedulersCoherent) :
    (s.select p).schedulersCoherent := by
  have hholds := ((s.schedulersCoherent_iff).1 hs).1.holds p
  rcases s.select_cases p with e | ⟨q, turn, x, e, r, sch, -, hx, hl, he, hcase⟩
  · rw [e]; exact hs
  · rw [he]
    refine schedulersCoherent_grantBlind.transmit p _ ?_
    have hmem : ∀ b, q ∈ (s.scheduler p).active.get b → x.state ≠ .purging := fun b k =>
      ((hholds.mem_iff hx b).1 k).1
    rcases hcase with ⟨hb, rfl⟩ | ⟨-, b, arrived, hseek, hget, rfl⟩
    · exact State.served_schedulersCoherent hs hx (hmem .b0 (by
        show q ∈ (s.scheduler p).active.b0
        rw [hb]; exact List.mem_cons_self)) (hholds.strict hb hx hl)
    · obtain ⟨ha, hp, hact, -, -⟩ := hholds.seek hseek
      exact State.served_schedulersCoherent hs hx (hmem b.band (by rw [← hact, hget]; exact List.mem_cons_self))
        (ha.drr hp hget hx hl _ _)

/-! ### Sweeps -/

/-- A sweep ends: nothing is said of it any more. -/
theorem State.queuesCoherent.endSweep {s : State} (hs : s.queuesCoherent) (x : Sweep) :
    (s.endSweep x).schedulersCoherent := by
  rw [State.schedulersCoherent_iff]
  refine ⟨?_, State.sweepHoldsQueues_none rfl⟩
  unfold State.endSweep
  dsimp only
  split
  · exact queuesCoherent_grantBlind.callReport s _ _ hs
  · exact hs

theorem State.schedulersCoherent.withSweep {s : State} (hs : s.queuesCoherent) {x : Sweep}
    (hsub : s.holdsSubject x.subject) (hc : x.subject.allows x.cursor) :
    ({ s with sweep := some x } : State).schedulersCoherent :=
  (State.schedulersCoherent_iff _).2 ⟨hs, State.sweepHoldsQueues_some rfl hsub hc⟩

theorem State.startSweep_schedulersCoherent {s : State} (hs : s.queuesCoherent) (t : StationId) (x : SweepSubject)
    (a b : Nat) (hsub : s.holdsSubject x) : (s.startSweep t x a b).schedulersCoherent :=
  (State.schedulersCoherent_iff _).2 ⟨hs, State.sweepHoldsQueues_some rfl hsub (by cases x <;> trivial)⟩

theorem State.advanceSlot_schedulersCoherent {s : State} {x y : Sweep} (hs : s.schedulersCoherent)
    (hx : s.sweep = some x) (hy : y.subject = x.subject) (t : StationId) (n : Nat) :
    (s.advanceSlot y t n).schedulersCoherent := by
  rw [State.schedulersCoherent_iff, State.sweepHoldsQueues_iff] at hs
  obtain ⟨hc, hsw⟩ := hs
  obtain ⟨hsub, -⟩ := hsw x hx
  rcases s.advanceSlot_cases y t n with ⟨c, hallow, e⟩ | ⟨f, -, e⟩ <;> rw [e]
  · exact State.schedulersCoherent.withSweep (x := { y with cursor := c }) hc (by dsimp only; rw [hy]; exact hsub) hallow
  · exact hc.endSweep y

theorem State.sweepSlot_keeps {P : State → Prop} (h : GrantBlind P) {s : State} (t : StationId) (n : Nat) (y : Slot)
    (hs : P s) : P (s.sweepSlot t n y) := by
  unfold State.sweepSlot
  dsimp only
  split
  · refine h.freeSlot t n y ?_
    unfold State.voidReserved
    repeat' split
    all_goals first | exact hs | exact h.setDescriptor _ _ hs
  · exact h.freeSlot t n y hs

theorem State.slotStep_schedulersCoherent (s : State) (hs : s.schedulersCoherent) : s.slotStep.schedulersCoherent := by
  rcases s.slotStep_cases with e | ⟨x, t, n, hx, -, e | ⟨y, -, -, e⟩⟩ <;> rw [e]
  · exact hs
  · exact State.advanceSlot_schedulersCoherent hs hx rfl t n
  · exact State.advanceSlot_schedulersCoherent (y := { x with slotsFreed := x.slotsFreed + 1 })
      (State.sweepSlot_keeps schedulersCoherent_grantBlind t n y hs) ((s.sweep_sweepSlot t n y).trans hx) rfl t n

/-- The evicted station is ABSENT now, and its lists were empty (R97, R137). -/
theorem State.queuesCoherent.completeEvict {s : State} (hs : s.queuesCoherent) {u : StationId}
    (hu : (s.station u).state = .evicting) : (s.completeEvict u).queuesCoherent := by
  have hoff : s.isEnabled u = false := by simp [State.isEnabled, hu]
  have hen : ∀ v, (s.completeEvict u).isEnabled v = s.isEnabled v := fun v => by
    show (((s.setStation u (s.station u).evicted).station v).state == StationState.enabled) = _
    rw [State.station_setStation]
    split
    · rename_i e; rw [e, hoff]; rfl
    · rfl
  have hsch : ∀ v, (s.completeEvict u).scheduler v =
      if v = u then { s.scheduler u with pointer := .b1, visitOpen := false } else s.scheduler v := fun v =>
    Bank.get_set ..
  obtain ⟨hc, hl, hf⟩ := hs
  refine ⟨hc, fun v => ?_, fun v => ?_⟩
  · rw [hsch]
    split
    · rename_i e
      rw [e]
      obtain ⟨hnodup, hmem, hempty⟩ := hl u
      exact ⟨hnodup, hmem, fun d hd => ⟨(hempty d hd).1, fun k => nomatch k.1⟩⟩
    · exact hl v
  · unfold State.queuesFollowStation
    rw [hen]
    exact hf v

theorem State.queuesCoherent.leaveQueue {s : State} (hs : s.queuesCoherent) (x : Sweep) (t : StationId) (q : Nat)
    (hev : ∀ u, x.subject = .evict u → (s.station u).state = .evicting ∧ t = u) :
    (s.leaveQueue x t q).schedulersCoherent := by
  rcases s.leaveQueue_cases x t q with ⟨u, r, hu, e⟩ | ⟨u, hu, e⟩ | ⟨-, e⟩ <;> rw [e]
  · refine State.schedulersCoherent.withSweep (x := { x with cursor := .queuePass t r }) hs ?_ ?_
    · show s.holdsSubject x.subject
      rw [hu]; exact (hev u hu).1
    · show x.subject.allows _
      rw [hu]; exact (hev u hu).2
  · exact (hs.completeEvict (hev u hu).1).endSweep x
  · exact hs.endSweep x

/-- A PURGING queue gets its mark, or a shorter list (R128). -/
theorem State.queuesCoherent.setPurging {s : State} (hs : s.queuesCoherent) {u : StationId} {q : Nat} {x y : Queue}
    (hx : s.queue u q = some x) (hst : x.state = .purging) (hy : y.state = x.state) (hband : y.band = x.band) :
    (s.setQueue u q y).queuesCoherent :=
  hs.updateQueue hx rfl rfl (fun _ => rfl) hy hband (Or.inl hst)

theorem State.queuesCoherent.setMark {s : State} (hs : s.queuesCoherent) (u : StationId) (q : Nat)
    (hp : ∀ x, s.queue u q = some x → x.state = .purging) : (s.setMark u q).queuesCoherent := by
  unfold State.setMark
  split
  · exact hs
  · rename_i y hy
    exact (hs.setPurging (y := { y with passComplete := true }) hy (hp y hy) rfl rfl).settleQueue u q

theorem State.station_setMark (s : State) (t : StationId) (q : Nat) (u : StationId) :
    (s.setMark t q).station u = s.station u := by
  unfold State.setMark
  split
  · rfl
  · rw [State.settleQueue_station]; rfl

/-- The queues that a queue pass visits: a queue at the cursor of a sweep is PURGING (R132, R135). -/
theorem State.schedulersCoherent.purging_at_cursor {s : State} (hs : s.schedulersCoherent) {x : Sweep}
    (hx : s.sweep = some x) {t : StationId} {q : Nat} (hc : x.cursor = .queuePass t q) {y : Queue}
    (hy : s.queue t q = some y) : y.state = .purging := by
  rw [State.schedulersCoherent_iff, State.sweepHoldsQueues_iff] at hs
  obtain ⟨hcoh, hsw⟩ := hs
  obtain ⟨hsub, hallow⟩ := hsw x hx
  rw [hc] at hallow
  cases hs' : x.subject with
  | revoke f => rw [hs'] at hallow; exact hallow.elim
  | purge u r =>
    rw [hs'] at hallow hsub
    obtain ⟨rfl, rfl⟩ := hallow
    obtain ⟨-, z, hz, h1, -⟩ := hsub
    exact Option.some.inj (hy.symm.trans hz) ▸ h1
  | evict u =>
    rw [hs'] at hallow hsub
    obtain rfl : t = u := hallow
    have hev : (s.station t).state = .evicting := hsub
    exact hcoh.purging (by simp [State.isEnabled, hev]) hy

/-- The entry at the head of a PURGING queue is freed, the sweep as it is (R128). -/
theorem State.schedulersCoherent.sweepEntry {s : State} (hs : s.schedulersCoherent) {t : StationId} {q : Nat}
    {y : Queue} (hy : s.queue t q = some y) (hp : y.state = .purging) (e : EntryRef) (r : List ListEntry) :
    (s.sweepEntry t q y e r).schedulersCoherent := by
  rw [State.schedulersCoherent_iff] at hs
  obtain ⟨hc, hsw⟩ := hs
  refine schedulersCoherent_grantBlind.freeEntry e _ _ ((State.schedulersCoherent_iff _).2
    ⟨hc.setPurging hy hp rfl rfl, hsw.update (u := t) (q := q) (y := { y with list := r }) rfl rfl (fun _ k => k) ?_⟩)
  rintro - ⟨z, hz, h1, h2⟩
  obtain rfl : y = z := Option.some.inj (hy.symm.trans hz)
  exact ⟨h1, h2⟩

theorem State.leaveQueue_evict {s : State} {x y : Sweep} {t : StationId} {q : Nat} (hs : s.schedulersCoherent)
    (hx : s.sweep = some x) (hc : x.cursor = .queuePass t q) (hy : y.subject = x.subject) :
    ∀ u, y.subject = .evict u → (s.station u).state = .evicting ∧ t = u := by
  intro u hu
  rw [State.schedulersCoherent_iff, State.sweepHoldsQueues_iff] at hs
  obtain ⟨hsub, hallow⟩ := hs.2 x hx
  rw [hy] at hu
  rw [hu] at hsub hallow
  rw [hc] at hallow
  exact ⟨hsub, hallow⟩

theorem State.queueStep_schedulersCoherent (s : State) (hs : s.schedulersCoherent) :
    s.queueStep.schedulersCoherent := by
  have hcoh := ((s.schedulersCoherent_iff).1 hs).1
  rcases s.queueStep_cases with
    e | ⟨x, t, q, hx, hc, ⟨-, e⟩ | ⟨y, hy, ⟨-, e⟩ | ⟨e', r, x', -, hsub, hcur, hlast⟩⟩⟩
  · rw [e]; exact hs
  · rw [e]
    exact hcoh.leaveQueue x t q (State.leaveQueue_evict hs hx hc rfl)
  · rw [e]
    have hp := hs.purging_at_cursor hx hc hy
    refine (hcoh.setMark t q (fun z hz => Option.some.inj (hy.symm.trans hz) ▸ hp)).leaveQueue x t q (fun u hu => ?_)
    rw [State.station_setMark]
    exact State.leaveQueue_evict hs hx hc rfl u hu
  · have hp := hs.purging_at_cursor hx hc hy
    have hfreed := hs.sweepEntry hy hp e'.ref r
    have hsweep : (s.sweepEntry t q y e'.ref r).sweep = some x := (s.sweep_sweepEntry ..).trans hx
    have hcoh' := ((State.schedulersCoherent_iff _).1 hfreed).1
    rcases hlast with ⟨-, e⟩ | ⟨-, e⟩ <;> rw [e]
    · refine (hcoh'.setMark t q (fun z hz => hfreed.purging_at_cursor hsweep hc hz)).leaveQueue x' t q (fun u hu => ?_)
      rw [State.station_setMark]
      exact State.leaveQueue_evict hfreed hsweep hc hsub u hu
    · rw [State.schedulersCoherent_iff, State.sweepHoldsQueues_iff] at hfreed
      obtain ⟨hholds, hallow⟩ := hfreed.2 x hsweep
      exact State.schedulersCoherent.withSweep hcoh' (hsub ▸ hholds) (by rw [hsub, hcur]; exact hallow)

/-! ### Sweep requests -/

theorem State.revokeFamily_schedulersCoherent (s : State) (t : StationId) (f : Nat) (hs : s.schedulersCoherent) :
    (s.revokeFamily t f).state.schedulersCoherent := by
  unfold State.revokeFamily
  repeat' split
  · exact hs
  · exact hs
  · exact hs
  · exact State.startSweep_schedulersCoherent (s := s.setFamily f _) ((s.schedulersCoherent_iff).1 hs).1 t _ 0 0 trivial

theorem State.purgeQueue_schedulersCoherent (s : State) (r t : StationId) (q : Nat) (hs : s.schedulersCoherent) :
    (s.purgeQueue r t q).state.schedulersCoherent := by
  have hcoh := ((s.schedulersCoherent_iff).1 hs).1
  unfold State.purgeQueue
  split
  · exact hs
  · rename_i h0
    split
    · exact hs
    · rename_i x hx
      split
      · exact hs
      · split
        · exact hs
        · refine State.startSweep_schedulersCoherent ?_ r _ 0 0 ⟨h0, { x with state := .purging, passComplete := false },
            ?_, rfl, rfl⟩
          · exact hcoh.update (u := t) (q := q) (y := { x with state := .purging, passComplete := false })
              (sch := (s.scheduler t).left x.band q) rfl rfl (fun _ => rfl)
              ((hcoh.holds t).left hx (Queue.not_listedIn_of_purging rfl)) (fun _ k => absurd k h0) (fun _ => rfl)
          · exact State.queue_setQueue_self s t q _

/-- EVICT STATION's changes of the station, its queues and its scheduler together (R91, R135). -/
theorem State.queuesCoherent.beginEvict {s : State} (hs : s.queuesCoherent) (t : StationId) (test : Family → Bool) :
    (((s.setStation t { s.station t with state := .evicting }).revokeFamilies test).purgeAllQueues t).queuesCoherent := by
  generalize ha : (((s.setStation t { s.station t with state := .evicting }).revokeFamilies test).purgeAllQueues t) = a
  have hsch : ∀ v, a.scheduler v = if v = t then
      { s.scheduler t with active := ActiveLists.empty, deficit := DrrCounts.zero, visitOpen := false }
      else s.scheduler v := fun v => by subst ha; exact Bank.get_set ..
  have hqueues : a.queues = Bank.set s.queues t (Table.mapRecords (Bank.get s.queues t)
      (fun x => { x with state := .purging, passComplete := false })) := by subst ha; rfl
  have hen : ∀ v, a.isEnabled v = if v = t then false else s.isEnabled v := fun v => by
    subst ha
    show (((s.setStation t { s.station t with state := .evicting }).station v).state == StationState.enabled) = _
    rw [State.station_setStation]
    split <;> rfl
  have hqueue : ∀ v, a.queue v = if v = t then
      fun q => (s.queue t q).map (fun x => { x with state := .purging, passComplete := false }) else s.queue v := by
    intro v
    funext q
    rw [State.queue, hqueues, Bank.get_set]
    split
    · rw [Table.find_mapRecords]; rfl
    · rfl
  obtain ⟨hc, hl, hf⟩ := hs
  have hpurged : ∀ q x, (s.queue t q).map (fun x => ({ x with state := .purging, passComplete := false } : Queue)) =
      some x → x.state = .purging := fun q x hx => by
    obtain ⟨z, -, rfl⟩ := Option.map_eq_some_iff.1 hx
    rfl
  refine ⟨fun v => ?_, fun v => ?_, fun v => ?_⟩
  · rw [hqueues]; exact Bank.canonical_set _ _ _ hc (Table.canonical_mapRecords _ _ (hc t)) v
  · rw [hsch, hqueue]
    split
    · have hnil : ∀ b, ActiveLists.empty.get b = [] := fun b => by cases b <;> rfl
      refine ⟨fun b => by rw [hnil]; exact List.nodup_nil, fun b q => ?_, fun d _ => ⟨by cases d <;> rfl, fun k => nomatch k.1⟩⟩
      rw [hnil]
      refine iff_of_false List.not_mem_nil ?_
      rintro ⟨x, hx, k⟩
      exact k.1 (hpurged q x hx)
    · exact hl v
  · unfold State.queuesFollowStation
    rw [hen, hqueue]
    split
    · exact ⟨fun k => (nomatch k), fun _ q x hx => hpurged q x hx⟩
    · exact hf v

theorem State.evictStation_schedulersCoherent (s : State) (r t : StationId) (hs : s.schedulersCoherent) :
    (s.evictStation r t).state.schedulersCoherent := by
  unfold State.evictStation
  split
  · exact hs
  · split
    · exact hs
    · have hb := ((s.schedulersCoherent_iff).1 hs).1.beginEvict t (fun x => x.issuer == t)
      have hst : (((((s.setStation t { s.station t with state := .evicting }).revokeFamilies
          (fun x => x.issuer == t)).purgeAllQueues t).station t).standing) =
          ({ s.station t with state := .evicting } : Station).standing :=
        congrArg Station.standing (State.station_setStation_self s t _)
      dsimp only
      split
      · exact State.startSweep_schedulersCoherent
          (queuesCoherent_grantBlind.ports _ _ (queuesCoherent_grantBlind.toStoreInvariant.endSession t hb)) r _ _ _
          (Station.state_of_standing ((standing_grantBlind t _).toStoreInvariant.endSession t hst))
      · exact State.startSweep_schedulersCoherent hb r _ _ _ (Station.state_of_standing hst)

/-! ### Stations, reset -/

/-- A scheduler at reset, for queues that are all PURGING or empty. -/
theorem Scheduler.reset_holds {f : Nat → Option Queue} (hf : ∀ q x b, f q = some x → ¬ x.listedIn b) :
    Scheduler.reset.holds f := by
  refine ⟨fun b => by rw [Scheduler.reset_active_get]; exact List.nodup_nil, fun b q => ?_,
    fun d _ => ⟨by cases d <;> rfl, fun k => nomatch k.1⟩⟩
  rw [Scheduler.reset_active_get]
  exact iff_of_false List.not_mem_nil (fun ⟨x, hx, k⟩ => hf q x b hx k)

theorem State.enableStation_schedulersCoherent (s : State) (t : StationId) (a : EnableParams)
    (hs : s.schedulersCoherent) : (s.enableStation t a).state.schedulersCoherent := by
  unfold State.enableStation
  split
  · rename_i habsent
    rw [State.schedulersCoherent_iff] at hs ⊢
    obtain ⟨⟨hc, hl, hf⟩, hsw⟩ := hs
    dsimp only
    have hst : ∀ v, v ≠ t → (s.enable t a).station v = s.station v := fun v hv =>
      Bank.get_set_ne _ _ hv
    have hself : (s.enable t a).isEnabled t = true :=
      beq_iff_eq.2 (congrArg Station.state (State.station_setStation_self s t _))
    have hqueue := State.queue_of_setQueues (s := s) (t := s.enable t a) (u := t) (q := 0)
      (y := Queue.freshReportQueue) rfl
    have hsch := State.scheduler_of_setSchedulers (s := s) (t := s.enable t a) (u := t) (x := Scheduler.reset) rfl
    have hoff : ∀ q x, s.queue t q = some x → x.state = .purging :=
      (hf t).2 (by simp [State.isEnabled, habsent])
    refine ⟨⟨fun v => ?_, fun v => ?_, fun v => ?_⟩, ?_⟩
    · exact Bank.canonical_set _ _ _ hc (Table.canonical_put _ _ _ (hc t)) v
    · rw [hqueue, hsch]
      split
      · refine Scheduler.reset_holds (fun q x b hx => ?_)
        by_cases h0 : q = 0
        · rw [h0, Function.update_self] at hx
          exact Option.some.inj hx ▸ Queue.not_listedIn_of_empty rfl b
        · rw [Function.update_of_ne h0] at hx
          exact Queue.not_listedIn_of_purging (hoff q x hx) b
      · exact hl v
    · unfold State.queuesFollowStation
      rw [hqueue]
      by_cases hv : v = t
      · subst hv
        rw [if_pos rfl, hself]
        exact ⟨fun _ => ⟨_, Function.update_self .., rfl, rfl⟩, fun k => nomatch k⟩
      · rw [if_neg hv, State.isEnabled, hst v hv]
        exact hf v
    · refine hsw.update (s := s) (t := s.enable t a) (u := t) (q := 0) (y := Queue.freshReportQueue) rfl rfl
        (fun v hv => ?_) (fun k => absurd rfl k)
      rw [hst v (fun e => by rw [e, habsent] at hv; exact nomatch hv)]
      exact hv
  · exact hs

theorem State.setLimits_schedulersCoherent (s : State) (t : StationId) (a : LimitsParams) (hs : s.schedulersCoherent) :
    (s.setLimits t a).state.schedulersCoherent := by
  unfold State.setLimits
  dsimp only
  repeat' split
  all_goals first | exact hs | exact State.schedulersCoherent_of_setStation hs t _ rfl

theorem State.setManage_schedulersCoherent (s : State) (t : StationId) (b : Bool) (hs : s.schedulersCoherent) :
    (s.setManage t b).state.schedulersCoherent := by
  unfold State.setManage
  dsimp only
  repeat' split
  all_goals first | exact hs | exact State.schedulersCoherent_of_setStation hs t _ rfl

/-- A part whose one queue is an empty RQ 0 of its one ENABLED station. -/
theorem State.schedulersCoherent_of_fresh {s : State} (t : StationId)
    (hq : s.queues = Bank.set (Bank.fill []) t [(0, Queue.freshReportQueue)])
    (hsch : ∀ u, s.scheduler u = Scheduler.reset) (hsweep : s.sweep = none)
    (hst : ∀ u, u ≠ t → s.isEnabled u = false) (hself : s.isEnabled t = true) : s.schedulersCoherent := by
  have hget : ∀ u, Bank.get s.queues u = if u = t then [(0, Queue.freshReportQueue)] else [] := fun u => by
    rw [hq, Bank.get_set, Bank.get_fill]
  have hqueue : ∀ u q x, s.queue u q = some x → u = t ∧ x = Queue.freshReportQueue := fun u q x hx => by
    rw [State.queue, hget] at hx
    split at hx
    · rename_i e
      rw [Table.find_singleton] at hx
      split at hx
      · exact ⟨e, (Option.some.inj hx).symm⟩
      · exact nomatch hx
    · exact nomatch hx
  rw [State.schedulersCoherent_iff]
  refine ⟨⟨fun u => ?_, fun u => ?_, fun u => ⟨fun k => ?_, fun k q x hx => ?_⟩⟩, State.sweepHoldsQueues_none hsweep⟩
  · rw [hget]; split <;> rfl
  · rw [hsch]
    exact Scheduler.reset_holds (fun q x b hx => (hqueue u q x hx).2 ▸ Queue.not_listedIn_of_empty rfl b)
  · by_cases hu : u = t
    · exact ⟨Queue.freshReportQueue, by rw [State.queue, hget, if_pos hu]; rfl, rfl, rfl⟩
    · rw [hst u hu] at k; exact nomatch k
  · rw [(hqueue u q x hx).1, hself] at k
    exact nomatch k

theorem State.reset_schedulersCoherent : State.reset.schedulersCoherent := by
  refine State.schedulersCoherent_of_fresh 0 rfl State.reset_scheduler rfl (fun u hu => ?_) (by decide +kernel)
  have hst : State.reset.station u = Station.resetAbsent := by
    show Bank.get (Bank.set (Bank.fill Station.resetAbsent) 0 Station.resetFirst) u = _
    rw [Bank.get_set_ne _ _ hu, Bank.get_fill]
  rw [State.isEnabled, hst]
  rfl

theorem State.clearTables_station (s : State) (t u : StationId) :
    (s.clearTables t).station u = (s.station u).cleared (u == t) := by
  show Bank.get (Bank.mapIdx s.stations (fun u x => x.cleared (u == t))) u = _
  rw [Bank.get_mapIdx]
  rfl

theorem State.clearTables_schedulersCoherent (s : State) (t : StationId) : (s.clearTables t).schedulersCoherent := by
  refine State.schedulersCoherent_of_fresh t rfl (fun u => by rw [State.scheduler]; exact Bank.get_fill _ u) rfl (fun u hu => ?_) ?_
  · rw [State.isEnabled, State.clearTables_station, beq_false_of_ne hu]; rfl
  · rw [State.isEnabled, State.clearTables_station, beq_self_eq_true]; rfl

theorem schedulersCoherent_commandInvariant : CommandInvariant State.schedulersCoherent where
  toStoreInvariant := schedulersCoherent_grantBlind.toStoreInvariant
  powerOn _ _ := State.reset_schedulersCoherent
  commitMessage := State.commitMessage_schedulersCoherent
  select := State.select_schedulersCoherent
  slotStep := State.slotStep_schedulersCoherent
  queueStep := State.queueStep_schedulersCoherent
  issueGrant _ t a h := schedulersCoherent_grantBlind.issueGrant t a h
  dropGrant s t n h := by
    unfold State.dropGrant
    repeat' split
    · exact h
    · exact h
    · exact schedulersCoherent_grantBlind.freeSlot t n _ h
  installInto _ t a h := schedulersCoherent_grantBlind.installInto t a h
  openQueue := State.openQueue_schedulersCoherent
  changeSeal := State.changeSeal_schedulersCoherent
  setDepth := State.setDepth_schedulersCoherent
  setBand := State.setBand_schedulersCoherent
  setQuanta _ t _ h := State.schedulersCoherent_of_setStation h t _ rfl
  revokeFamily := State.revokeFamily_schedulersCoherent
  purgeQueue := State.purgeQueue_schedulersCoherent
  evictStation s r t _ _ h := s.evictStation_schedulersCoherent r t h
  enableStation := State.enableStation_schedulersCoherent
  setLimits := State.setLimits_schedulersCoherent
  setManage := State.setManage_schedulersCoherent
  clearTables s t _ := s.clearTables_schedulersCoherent t

end Sys2Proof.Machine

namespace Sys2Proof.Proofs

open Sys2Proof.Machine

/-- Settles O58: each operation on the queues changes one record and its scheduler together, so that the active lists
follow; what a sweep in progress purges keeps its mark clear until the sweep leaves it. -/
theorem stepsKeepActiveLists : Obligations.StepsKeepActiveLists := fun _ _ hs ht =>
  schedulersCoherent_commandInvariant.step (fun _ _ h => h) hs ht

/-- Settles O59: every store is empty after reset, every count at its capacity, every port at its reset value; each
invariant of the steps was proved of the reset state beside it. -/
theorem resetSatisfiesTheInvariants : Obligations.ResetSatisfiesTheInvariants := by
  refine ⟨State.reset_slotsCounted, State.reset_storesCanonical, ?live, State.reset_poolCounted.1, fun p => ?port,
    State.reset_managed, State.reset_schedulersCoherent⟩
  case live => exact (State.liveCounted_iff _).2 (State.liveBalanced_of_empty rfl rfl rfl)
  case port => rw [State.reset_port]; exact PortLink.reset_coherent

end Sys2Proof.Proofs
end

section
/-! PROOFS. The step, time and RESET_N (R108, R202, R203), and the statements O1, O2, O4, O7 and O8. -/

namespace Sys2Proof.Machine

/-! ### Time -/

theorem State.expiryDue_eq (s : State) (p : PortId) :
    s.expiryDue p = decide ((s.port p).window.timer = some 0) := by
  rw [Bool.eq_iff_iff, decide_eq_true_iff]
  exact s.expiryDue_iff p

theorem Claims.ticked_eq (s : State) : Claims.ticked s = s.tick := rfl

theorem State.expiriesTaken (s : State) (l : List PortId) : Claims.ExpiriesTaken s l (s.expireAll l) := by
  induction l generalizing s with
  | nil => exact .none s
  | cons p r ih => exact .more s (s.expire p) _ p r rfl (ih _)

theorem State.passUnit_taken (s : State) :
    Claims.ExpiriesTaken (Claims.ticked s)
      ((List.finRange 8).filter (fun p => decide ((s.port p).window.timer = some 0))) s.passUnit := by
  have hdue : s.expiryDue = fun p => decide ((s.port p).window.timer = some 0) := funext s.expiryDue_eq
  have h := s.tick.expiriesTaken (stationsInOrder.filter s.expiryDue)
  rw [hdue] at h
  unfold State.passUnit
  rw [hdue]
  exact h

/-! ### Commands after RESET_N -/

theorem State.powerOn_window (s : State) (p : PortId) : s.powerOn.window p = Window.reset := by
  rw [State.window, State.powerOn_port]
  rfl

/-- A port without an ACTIVE session makes no selection (R86). -/
theorem State.select_of_not_active {s : State} {p : PortId} (h : (s.port p).state ≠ .active) : s.select p = s := by
  unfold State.select
  rw [if_neg]
  simp [State.selectionReady, h]

theorem State.arriveAck_of_not_active {s : State} {p : PortId} (a : AckFrame) (h : (s.port p).state ≠ .active) :
    s.arriveAck p a = s := by
  unfold State.arriveAck
  cases hx : (s.port p).state with
  | active => exact absurd hx h
  | down => simp [hx]
  | idle => simp [hx]
  | fenced => simp [hx]

theorem execAck_of_not_active {s : State} {p : PortId} (content : List Byte) (h : (s.port p).state ≠ .active) :
    execAck p content s = .next s := by
  unfold execAck
  split
  · rw [State.arriveAck_of_not_active _ h]
  · rfl

theorem State.powerOn_not_active (s : State) (p : PortId) : (s.powerOn.port p).state ≠ .active := by
  rw [State.powerOn_port]
  exact fun h => nomatch h

theorem State.powerOn_station_ne (s : State) {u : StationId} (h : u ≠ 0) :
    s.powerOn.station u = Station.resetAbsent := by
  show Bank.get (Bank.set (Bank.fill Station.resetAbsent) 0 Station.resetFirst) u = _
  rw [Bank.get_set_ne _ _ h, Bank.get_fill]

end Sys2Proof.Machine

namespace Sys2Proof.Proofs

open Sys2Proof.Machine

/-- Settles O1. -/
theorem stepRunsTheFrontCommand : Obligations.StepRunsTheFrontCommand := by
  intro c rest s h
  unfold step
  rw [h]

/-- Settles O2: the idle step is `passUnit`; with no expiry due it is `tick`, and otherwise the list of ports that are
due is worked through. -/
theorem idleStepPassesOneUnitOfTime : Obligations.IdleStepPassesOneUnitOfTime := by
  intro s h
  refine ⟨s.passUnit, by unfold step; rw [h], fun hnone => ?_, s.passUnit_taken⟩
  rw [s.passUnit_noneDue hnone]
  exact ⟨fun p => s.port_tick p, rfl⟩

/-- Settles O4. -/
theorem resetReturnsEveryBlockToPowerOn : Obligations.ResetReturnsEveryBlockToPowerOn := exec_resetN

/-- Settles O7: every port is at its reset value, DOWN with a stopped timer, so that none of the three commands is an
event of it. -/
theorem resetLeavesTheWindowsEmpty : Obligations.ResetLeavesTheWindowsEmpty := by
  intro s t h
  obtain ⟨s₀, rfl⟩ := eq_powerOn_of_reset h
  refine ⟨fun p => ?_, fun p content => ⟨?_, ?_, ?_⟩⟩
  · rw [State.powerOn_port]
    exact ⟨rfl, rfl, rfl, rfl, rfl, rfl, rfl, rfl, rfl, rfl, rfl⟩
  · exact congrArg Host.Outcome.next (State.select_of_not_active (s₀.powerOn_not_active p))
  · exact execAck_of_not_active content (s₀.powerOn_not_active p)
  · refine congrArg Host.Outcome.next (State.expire_notDue _ p ?_)
    rw [State.powerOn_window]
    exact fun k => nomatch k

/-- Settles O8. -/
theorem resetLeavesSchedulersSweepPortsAndStations : Obligations.ResetLeavesSchedulersSweepPortsAndStations := by
  intro s t h
  obtain ⟨s₀, rfl⟩ := eq_powerOn_of_reset h
  refine ⟨s₀.powerOn_scheduler, rfl, rfl, rfl, fun p => ?_, s₀.powerOn_station_zero, fun u hu => s₀.powerOn_station_ne hu⟩
  rw [State.powerOn_port]
  exact ⟨rfl, rfl, rfl, rfl, rfl, rfl, rfl, rfl, rfl, rfl⟩

end Sys2Proof.Proofs
end

section
/-! PROOFS. Upstream frames and what they are read as (R163, R197, R198), and the statement O60. -/

namespace Sys2Proof.Machine

theorem toNat_ofNat_byte {n : Nat} (h : n ≤ 15) : (BitVec.ofNat 8 n : Byte).toNat = n := by
  rw [BitVec.toNat_ofNat]
  omega

theorem classify_linkOpenFrame {n : Byte} (h1 : 1 ≤ n.toNat) (h2 : n.toNat ≤ 15) :
    classify (sealFrame [0x04, 1, n]) = .linkOpen n.toNat := by
  rw [classify_sealFrame _ (by simp) (by simp)]
  simp [readFrame, readLink, h1, h2]

theorem classify_linkCloseFrame (b : Byte) : classify (sealFrame [0x04, 2, b]) = .linkClose := by
  rw [classify_sealFrame _ (by simp) (by simp)]
  simp [readFrame, readLink]

theorem classify_linkPingFrame (b : Byte) : classify (sealFrame [0x04, 3, b]) = .linkPing := by
  rw [classify_sealFrame _ (by simp) (by simp)]
  simp [readFrame, readLink]

theorem classify_ackFrame {ses cr : Byte} (seq : Byte) (h1 : ses.toNat ≤ 15) (h2 : cr.toNat ≤ 15) :
    classify (sealFrame [0x03, ses, 1, seq, cr]) = .ack ⟨ses.toNat, some seq, cr.toNat⟩ := by
  rw [classify_sealFrame _ (by simp) (by simp)]
  simp [readFrame, readAck, h1, h2]

theorem classify_creditFrame {ses cr : Byte} (seq : Byte) (h1 : ses.toNat ≤ 15) (h2 : cr.toNat ≤ 15) :
    classify (sealFrame [0x03, ses, 0, seq, cr]) = .ack ⟨ses.toNat, none, cr.toNat⟩ := by
  rw [classify_sealFrame _ (by simp) (by simp)]
  simp [readFrame, readAck, h1, h2]

theorem classify_ingressFrame {kind : FrameKind} {ses : Byte} {body : List Byte} (seq : SeqNum)
    (h : Claims.ReadableFrame kind ses body) :
    classify (Claims.ingressContent kind ses seq body) = .ingress ⟨kind, ses.toNat, seq, body⟩ := by
  obtain ⟨hses, hfixed, hlen⟩ := h
  rw [Claims.ingressContent, classify_sealFrame _ (by simp) (by simp; omega)]
  cases kind <;> simp [readFrame, readIngress, FrameKind.byte, hses, hfixed]

end Sys2Proof.Machine

namespace Sys2Proof.Proofs

open Sys2Proof.Machine

/-- Settles O60: a sealed frame passes the frame check, and each kind's reader gets back the fields that its bytes were
written from. -/
theorem framesAreReadBack : Obligations.FramesAreReadBack := by
  intro a hwf
  cases a with
  | crcError => exact nomatch hwf
  | unreadable => exact nomatch hwf
  | badLinkOpen => exact nomatch hwf
  | linkOpen n =>
    simp only [Arrival.wf, Bool.and_eq_true, decide_eq_true_eq] at hwf
    have hn := toNat_ofNat_byte hwf.2
    have h := classify_linkOpenFrame (n := BitVec.ofNat 8 n) (by omega) (by omega)
    rw [hn] at h
    exact h
  | linkClose => exact classify_linkCloseFrame 0
  | linkPing => exact classify_linkPingFrame 0
  | ingress f =>
    simp only [Arrival.wf, Bool.and_eq_true, decide_eq_true_eq] at hwf
    obtain ⟨⟨hses, hfixed⟩, hlen⟩ := hwf
    have hn := toNat_ofNat_byte hses
    have h := classify_ingressFrame (kind := f.kind) (ses := BitVec.ofNat 8 f.session) (body := f.body) f.seq
      ⟨by omega, hfixed, hlen⟩
    rw [hn] at h
    exact h
  | ack f =>
    obtain ⟨ses, seq, credit⟩ := f
    simp only [Arrival.wf, Bool.and_eq_true, decide_eq_true_eq] at hwf
    obtain ⟨hses, hcredit⟩ := hwf
    have hn := toNat_ofNat_byte hses
    have hc := toNat_ofNat_byte hcredit
    cases seq with
    | none =>
      have h := classify_creditFrame (ses := BitVec.ofNat 8 ses) (cr := BitVec.ofNat 8 credit) 0 (by omega) (by omega)
      rw [hn, hc] at h
      exact h
    | some n =>
      have h := classify_ackFrame (ses := BitVec.ofNat 8 ses) (cr := BitVec.ofNat 8 credit) n (by omega) (by omega)
      rw [hn, hc] at h
      exact h

end Sys2Proof.Proofs
end

section
/-! PROOFS. Signal, sessions, discarded frames and the egress link, port by port (R158 to R163, R168 to R173), and the
statements O9, O10, O12, O13, O14, O49 and O50. -/

namespace Sys2Proof.Machine

open Sys2Proof.Claims (OnlyPort endedPort withPort)

/-! ### Changes of one port -/

theorem withPort_eq (s : State) (p : PortId) (x : PortLink) : withPort s p x = s.setPort p x := rfl

theorem onlyPort_of {s t : State} {p : PortId} {x : PortLink} (h : t.ports = Bank.set s.ports p x)
    (hsw : t.sweep = s.sweep) (hlt : t.lastTicket = s.lastTicket) (hlc : t.lastCompleted = s.lastCompleted)
    (hpe : t.pending = s.pending) : OnlyPort s t p ∧ t.port p = x :=
  ⟨⟨fun q hq => by rw [State.port_of_setPorts h, if_neg hq], hsw, hlt, hlc, hpe⟩, by
    rw [State.port_of_setPorts h, if_pos rfl]⟩

/-- A session ends and the port takes the state of the cause. -/
theorem onlyPort_endSession (s : State) (p : PortId) (x : PortLink) :
    OnlyPort s ((s.endSession p).setPort p x) p ∧ ((s.endSession p).setPort p x).port p = x :=
  onlyPort_of (by simp) (by simp [State.endSession]) (by simp [State.endSession]) (by simp [State.endSession])
    (by simp [State.endSession])

theorem onlyPort_fence (s : State) (p : PortId) (c : FenceCause) :
    OnlyPort s (s.fence p c) p ∧ (s.fence p c).port p = (s.port p).fenced c :=
  onlyPort_of (s.fence_ports p c) (by simp [State.fence, State.endSession]) (by simp [State.fence, State.endSession])
    (by simp [State.fence, State.endSession]) (by simp [State.fence, State.endSession])

/-! ### Arrivals by the state of the port -/

theorem State.loseSignal_active {s : State} {p : PortId} (h : (s.port p).state = .active) :
    s.loseSignal p =
      (s.endSession p).setPort p { (s.port p).withoutSession.cutOff with state := .down } := by
  unfold State.loseSignal
  rw [h]
  dsimp only
  rw [State.endSession_port_self]

theorem State.arriveLinkClose_active {s : State} {p : PortId} (h : (s.port p).state = .active) :
    s.arriveLinkClose p =
      (s.endSession p).setPort p { (s.port p).withoutSession with state := .idle, linkReply := some .closed } := by
  unfold State.arriveLinkClose
  rw [h]
  dsimp only
  rw [State.endSession_port_self]

theorem State.arriveLinkOpen_active {s : State} {p : PortId} (n : Nat) (h : (s.port p).state = .active) :
    s.arriveLinkOpen p n = (s.endSession p).setPort p ((s.port p).withoutSession.withSession n) := by
  unfold State.arriveLinkOpen
  rw [h]
  dsimp only
  rw [State.endSession_port_self]

theorem exec_linkClose (p : PortId) (b : Byte) (s : State) :
    exec (.linkClose p (sealFrame [0x04, 2, b])) s = .next (s.arriveLinkClose p) := by
  show execLinkClose _ _ _ = _
  rw [execLinkClose, classify_linkCloseFrame]

theorem exec_linkOpen (p : PortId) {n : Byte} (h1 : 1 ≤ n.toNat) (h2 : n.toNat ≤ 15) (s : State) :
    exec (.linkOpen p (sealFrame [0x04, 1, n])) s = .next (s.arriveLinkOpen p n.toNat) := by
  show execLinkOpen _ _ _ = _
  rw [execLinkOpen, classify_linkOpenFrame h1 h2]

theorem exec_linkPing (p : PortId) (b : Byte) (s : State) :
    exec (.linkPing p (sealFrame [0x04, 3, b])) s = .next (s.arriveLinkPing p) := by
  show execLinkPing _ _ _ = _
  rw [execLinkPing, classify_linkPingFrame]

theorem exec_unreadableFrame (p : PortId) {content : List Byte}
    (h : classify content = .unreadable ∨ classify content = .badLinkOpen) (s : State) :
    exec (.unreadableFrame p content) s = .next (s.arriveUnreadable p) := by
  show execUnreadableFrame _ _ _ = _
  rcases h with h | h <;> rw [execUnreadableFrame, h]

theorem State.arriveUnreadable_eq (s : State) (p : PortId) : s.arriveUnreadable p = s.protocolError p := by
  unfold State.arriveUnreadable
  cases h : (s.port p).state with
  | active => rfl
  | down => rw [s.protocolError_of_not_active p (by simp [h])]
  | idle => rw [s.protocolError_of_not_active p (by simp [h])]
  | fenced => rw [s.protocolError_of_not_active p (by simp [h])]

/-- A protocol error below the limit is counted (R169). -/
theorem State.protocolError_counted {s : State} {p : PortId} (h : (s.port p).state = .active)
    (hl : (s.port p).protocolErrors + 1 ≠ (s.port p).protocolLimit) :
    s.protocolError p = s.setPort p { s.port p with protocolErrors := (s.port p).protocolErrors + 1 } := by
  simp [State.protocolError, h, hl]

/-- A protocol error at the limit fences the port (R169). -/
theorem State.protocolError_fences {s : State} {p : PortId} (h : (s.port p).state = .active)
    (hl : (s.port p).protocolErrors + 1 = (s.port p).protocolLimit) :
    s.protocolError p =
      (s.setPort p { s.port p with protocolErrors := (s.port p).protocolLimit }).fence p .protocol := by
  simp [State.protocolError, h, hl]

theorem classify_crcError {content : List Byte} (h : crcOk content = false) : classify content = .crcError := by
  simp [classify, h]

/-! ### The DELIVERY frames that are built again (R112) -/

theorem State.grantSection_eq (s : State) : s.grantSection = Claims.sectionOf s := by
  funext g
  unfold State.grantSection Claims.sectionOf
  cases g.state with
  | inTransit => rfl
  | reserved n => rfl
  | void r => cases r <;> rfl

theorem State.buildDelivery_eq (s : State) (n : Nat) : s.buildDelivery n = Claims.frameOf s n := by
  funext e
  cases e with
  | message d =>
    unfold State.buildDelivery Claims.frameOf
    dsimp only
    rw [s.grantSection_eq]
    cases s.descriptor d <;> rfl
  | report r =>
    unfold State.buildDelivery Claims.frameOf
    dsimp only
    cases s.report r <;> rfl

theorem PortLink.sessionNumber_eq (x : PortLink) : x.sessionNumber = Claims.sessionOf x := rfl

/-! ### ACK of an outstanding sequence -/

/-- The outstanding list up to the first entry of a sequence (R109). -/
theorem State.upToSeq_append {s : State} {n : SeqNum} {before after : List EntryRef} {e : EntryRef}
    (he : s.entrySeq e = some n) (hb : ∀ e' ∈ before, s.entrySeq e' ≠ some n) :
    s.upToSeq n (before ++ e :: after) = some (before ++ [e]) := by
  induction before with
  | nil => simp [State.upToSeq, he]
  | cons a r ih =>
    have ha := hb a List.mem_cons_self
    have ih' := ih (fun e' he' => hb e' (List.mem_cons_of_mem a he'))
    simp [State.upToSeq, ha, ih']

theorem State.upToSeq_none {s : State} {n : SeqNum} {l : List EntryRef} (h : ∀ e ∈ l, s.entrySeq e ≠ some n) :
    s.upToSeq n l = none := by
  induction l with
  | nil => rfl
  | cons a r ih =>
    have ha := h a List.mem_cons_self
    have ih' := ih (fun e he => h e (List.mem_cons_of_mem a he))
    simp [State.upToSeq, ha, ih']

/-- A list with an entry of the sequence splits at the first one. -/
theorem State.exists_first_seq {s : State} {n : SeqNum} {l : List EntryRef} (h : ∃ e ∈ l, s.entrySeq e = some n) :
    ∃ before e after, l = before ++ e :: after ∧ s.entrySeq e = some n ∧ ∀ e' ∈ before, s.entrySeq e' ≠ some n := by
  induction l with
  | nil => obtain ⟨e, he, -⟩ := h; exact absurd he List.not_mem_nil
  | cons a r ih =>
    by_cases ha : s.entrySeq a = some n
    · exact ⟨[], a, r, rfl, ha, fun e' he' => absurd he' List.not_mem_nil⟩
    · obtain ⟨e, he, hs⟩ := h
      have hr : e ∈ r := (List.mem_cons.1 he).resolve_left (fun k => ha (k ▸ hs))
      obtain ⟨before, e₀, after, hl, he₀, hb⟩ := ih ⟨e, hr, hs⟩
      refine ⟨a :: before, e₀, after, by rw [hl]; rfl, he₀, fun e' he' => ?_⟩
      rcases List.mem_cons.1 he' with k | k
      · rw [k]; exact ha
      · exact hb e' k

/-- An ACK of the present session reaches the window (R109). -/
theorem exec_ack {p : PortId} {s : State} {ses cr : Byte} {x : Session} (seq : Byte) (h1 : ses.toNat ≤ 15)
    (h2 : cr.toNat ≤ 15) (hst : (s.port p).state = .active) (hx : (s.port p).session = some x)
    (hn : ses.toNat = x.number) :
    exec (.ack p (sealFrame [0x03, ses, 1, seq, cr])) s = .next (s.takeAck p ⟨ses.toNat, some seq, cr.toNat⟩) ∧
    exec (.ack p (sealFrame [0x03, ses, 0, seq, cr])) s = .next (s.takeAck p ⟨ses.toNat, none, cr.toNat⟩) := by
  have harrive : ∀ a : AckFrame, a.session = ses.toNat → s.arriveAck p a = s.takeAck p a := fun a ha => by
    simp [State.arriveAck, hst, hx, ha, hn]
  constructor
  · show execAck _ _ _ = _
    rw [execAck, classify_ackFrame seq h1 h2]
    exact congrArg Host.Outcome.next (harrive _ rfl)
  · show execAck _ _ _ = _
    rw [execAck, classify_creditFrame seq h1 h2]
    exact congrArg Host.Outcome.next (harrive _ rfl)

/-- The window after an ACK of sequence n takes its oldest entries up to the one of n (R109 to R111). -/
theorem State.takeAck_seq {s : State} {p : PortId} {n : SeqNum} {before after : List EntryRef} {e : EntryRef}
    (ses k : Nat) (hout : (s.port p).window.outstanding = before ++ e :: after) (he : s.entrySeq e = some n)
    (hb : ∀ e' ∈ before, s.entrySeq e' ≠ some n) :
    s.takeAck p ⟨ses, some n, k⟩ =
      (s.completeAll (before ++ [e])).setWindow p
        ((s.window p).progress (before ++ [e]).length ((before ++ [e]).filterMap s.entrySeq) k) := by
  unfold State.takeAck State.window
  dsimp only
  rw [hout, State.upToSeq_append he hb]

@[simp] theorem State.completeAll_port (s : State) (l : List EntryRef) (p : PortId) :
    (s.completeAll l).port p = s.port p := State.port_of_ports (s.completeAll_ports l) p

end Sys2Proof.Machine

namespace Sys2Proof.Proofs

open Sys2Proof.Machine
open Sys2Proof.Claims (endedPort withPort)

/-- Settles O9. -/
theorem signalOnAPortWithoutASession : Obligations.SignalOnAPortWithoutASession := by
  intro p s
  refine ⟨?_, fun h => ?_, fun h => ?_⟩
  · refine congrArg Host.Outcome.next ?_
    unfold State.detectSignal
    cases h : (s.port p).state <;> simp [h, withPort_eq]
  · refine congrArg Host.Outcome.next ?_
    rw [State.loseSignal, h]
  · refine congrArg Host.Outcome.next ?_
    rcases h with h | h <;> simp [State.loseSignal, h, withPort_eq, PortLink.cutOff]

/-- Settles O10: the session end touches the port alone, and the cause then sets state and link reply. -/
theorem sessionEndClearsThePort : Obligations.SessionEndClearsThePort := by
  intro p s b n h
  refine ⟨⟨_, congrArg Host.Outcome.next (State.loseSignal_active h), ?_⟩, ⟨_, exec_linkClose p b s, ?_⟩,
    fun h1 h2 => ⟨_, exec_linkOpen p h1 h2 s, ?_⟩⟩
  · exact onlyPort_endSession s p _
  · rw [State.arriveLinkClose_active h]
    exact onlyPort_endSession s p _
  · rw [State.arriveLinkOpen_active _ h]
    exact onlyPort_endSession s p _

/-- Settles O12. -/
theorem linkFramesOpenCloseAndPing : Obligations.LinkFramesOpenCloseAndPing := by
  intro p s b n
  have hping : ∀ r, (s.port p).state = .idle ∨ (s.port p).state = .active → s.arriveLinkPing p =
      s.setPort p ((s.port p).withPong r) ∨ r ≠ decide ((s.port p).state = .active) := by
    intro r h
    by_cases hr : r = decide ((s.port p).state = .active)
    · left
      rcases h with h | h <;> simp [State.arriveLinkPing, h, hr]
    · exact Or.inr hr
  refine ⟨fun h => ⟨fun h1 h2 => ?_, ?_⟩, fun h => ⟨fun hr => ?_, fun hr => ?_⟩⟩
  · rw [exec_linkOpen p h1 h2]
    refine congrArg Host.Outcome.next ?_
    simp only [State.arriveLinkOpen, h]
    rfl
  · rw [exec_linkClose]
    refine congrArg Host.Outcome.next ?_
    simp only [State.arriveLinkClose, h]
    rfl
  · rw [exec_linkPing, (hping _ h).resolve_right (fun k => k rfl), PortLink.withPong, hr]
    rfl
  · obtain ⟨r, hr'⟩ := Option.ne_none_iff_exists'.1 hr
    rw [exec_linkPing, (hping _ h).resolve_right (fun k => k rfl), PortLink.withPong, hr']
    exact congrArg Host.Outcome.next (s.setPort_port_self p)

/-- Settles O13. -/
theorem discardedFramesAreCounted : Obligations.DiscardedFramesAreCounted := by
  intro p content s
  refine ⟨fun h => ?_, fun h => ⟨fun hst => ?_, fun hst hl => ?_⟩⟩
  · show execCrcErrorFrame p content s = _
    rw [execCrcErrorFrame, classify_crcError h]
    refine congrArg Host.Outcome.next ?_
    unfold State.arriveCrcError
    cases hst : (s.port p).state with
    | down => simp [hst]
    | fenced => simp [hst]
    | idle => simp only [hst, true_or, if_true]; rfl
    | active => simp only [hst, or_true, if_true]; rfl
  · rw [exec_unreadableFrame p h, State.arriveUnreadable_eq, s.protocolError_of_not_active p hst]
  · rw [exec_unreadableFrame p h, State.arriveUnreadable_eq, State.protocolError_counted hst hl]
    rfl

/-- Settles O14. -/
theorem protocolErrorAtTheLimitFencesThePort : Obligations.ProtocolErrorAtTheLimitFencesThePort := by
  intro p content s h hst hl
  refine ⟨_, exec_unreadableFrame p h s, ?_⟩
  rw [State.arriveUnreadable_eq, State.protocolError_fences hst hl]
  obtain ⟨⟨hports, hrest⟩, hp⟩ :=
    onlyPort_fence (s.setPort p { s.port p with protocolErrors := (s.port p).protocolLimit }) p .protocol
  refine ⟨⟨fun q hq => ?_, hrest⟩, ?_⟩
  · rw [hports q hq, State.port_setPort, if_neg hq]
  · rw [hp, State.port_setPort_self]
    rfl

/-- Settles O49: an expiry that is due goes back or fences by its retry count; an ACK that makes progress has set the
timer anew. -/
theorem expirySendsTheWindowAgainOrFences : Obligations.ExpirySendsTheWindowAgainOrFences := by
  intro p s
  refine ⟨fun h => congrArg Host.Outcome.next (s.expire_notDue p h), fun h hr => ?_, fun ⟨h, hr⟩ => ?_,
    fun ses seq cr x h1 h2 hst hx hn hout hack => ?_⟩
  · refine congrArg Host.Outcome.next ?_
    have hgo : s.expire p = s.goBack p ((s.port p).window.retryCount + 1) := by
      unfold State.expire
      rw [if_pos ((s.expiryDue_iff p).2 h)]
      exact if_neg (Nat.not_lt.2 hr)
    rw [hgo, State.goBack, State.buildDelivery_eq]
    rfl
  · have hfence : s.expire p = s.fence p .retries := by
      unfold State.expire
      rw [if_pos ((s.expiryDue_iff p).2 h)]
      exact if_pos hr
    exact ⟨s.fence p .retries, congrArg Host.Outcome.next hfence, onlyPort_fence s p .retries⟩
  · obtain ⟨before, e, after, hl, he, hb⟩ := State.exists_first_seq hout
    refine ⟨_, (exec_ack seq h1 h2 hst hx hn).1, congrArg Host.Outcome.next (State.expire_notDue _ p ?_)⟩
    rw [State.takeAck_seq _ _ hl he hb, State.window_setWindow_self]
    show (if _ then none else some (s.port p).window.ackTimeout) ≠ some 0
    split
    · exact fun k => nomatch k
    · exact fun k => Nat.one_ne_zero (Nat.le_zero.1 (Option.some.inj k ▸ hack))

/-- Settles O50: the classes of waiting frames in their order. -/
theorem egressLinkServesClassesInOrder : Obligations.EgressLinkServesClassesInOrder := by
  intro p s
  refine ⟨fun h => ?_, fun h => ⟨fun r hr => ?_, fun a rest hr ha => ?_, fun f rest hr ha ht => ?_,
    fun f rest hr ha ht hn => ?_, fun hr ha ht hn => ?_⟩⟩ <;>
    refine congrArg (fun y => Host.Outcome.next (s.setPort p y)) ?_
  · exact PortLink.grantEgress_closed p h
  · exact PortLink.grantEgress_reply p h hr
  · exact PortLink.grantEgress_answer p h hr ha
  · exact PortLink.grantEgress_retransmission p h hr ha ht
  · exact PortLink.grantEgress_newDelivery p h hr ha ht hn
  · exact PortLink.grantEgress_nothing p h hr ha ht hn

end Sys2Proof.Proofs
end

section
/-! PROOFS. MESSAGE, CONTROL and ACK frames arrive (R109 to R111, R163 to R167), and the statements O16 to O21. -/

namespace Sys2Proof.Machine

open Sys2Proof.Claims (withPort)

/-! ### The sequence check -/

theorem exec_ingressArrival (p : PortId) {kind : FrameKind} {ses : Byte} {body : List Byte} (seq : SeqNum)
    (h : Claims.ReadableFrame kind ses body) (s : State) :
    exec (.ingressArrival p (Claims.ingressContent kind ses seq body)) s =
      .next (s.arriveIngress p ⟨kind, ses.toNat, seq, body⟩) := by
  show execIngressArrival _ _ _ = _
  rw [execIngressArrival, classify_ingressFrame seq h]

theorem State.arriveIngress_of_session {s : State} {p : PortId} {x : Session} {f : IngressFrame}
    (hst : (s.port p).state = .active) (hx : (s.port p).session = some x) (hn : f.session = x.number) :
    s.arriveIngress p f = s.checkSequence p x f := by
  simp [State.arriveIngress, hst, hx, hn]

/-- A MESSAGE or CONTROL frame of no present session changes nothing (R157, R163). -/
theorem State.arriveIngress_outside {s : State} {p : PortId} {f : IngressFrame}
    (h : (s.port p).state ≠ .active ∨ ∀ x ∈ (s.port p).session, f.session ≠ x.number) : s.arriveIngress p f = s := by
  unfold State.arriveIngress
  dsimp only
  split
  · rfl
  · rfl
  · rfl
  · rename_i hst
    split
    · rfl
    · rename_i x hx
      exact if_neg (h.resolve_left (fun k => k hst) x hx)

/-- An ACK of no present session changes nothing (R157, R163). -/
theorem State.arriveAck_outside {s : State} {p : PortId} {a : AckFrame}
    (h : (s.port p).state ≠ .active ∨ ∀ x ∈ (s.port p).session, a.session ≠ x.number) : s.arriveAck p a = s := by
  unfold State.arriveAck
  dsimp only
  split
  · rfl
  · rfl
  · rfl
  · rename_i hst
    split
    · rfl
    · rename_i x hx
      exact if_neg (h.resolve_left (fun k => k hst) x hx)

theorem Session.wasAccepted_iff (x : Session) (n : SeqNum) :
    x.wasAccepted n = true ↔ Claims.AmongAccepted x.arrival n x.accepted := by
  unfold Session.wasAccepted
  dsimp only
  rw [Bool.and_eq_true, decide_eq_true_iff, decide_eq_true_iff]

theorem PortLink.answerRoom_iff (x : PortLink) : x.answerRoom = true ↔ x.answers.length < 8 := decide_eq_true_iff

section

variable {s : State} {p : PortId} {x : Session} {f : IngressFrame}

theorem State.checkSequence_queued (hseq : f.seq = x.arrival) (hroom : (s.port p).ingress.length < 4) :
    s.checkSequence p x f =
      s.setPort p
        { s.port p with
          ingress := (s.port p).ingress ++ [f]
          session := some { x with arrival := x.arrival + 1, accepted := saturatingSucc 4 x.accepted } } := by
  unfold State.checkSequence
  dsimp only
  rw [if_pos hseq, if_pos (by exact hroom)]
  rfl

theorem State.checkSequence_overflow (hseq : f.seq = x.arrival) (hfull : 4 ≤ (s.port p).ingress.length) :
    s.checkSequence p x f = s.protocolError p := by
  unfold State.checkSequence
  dsimp only
  rw [if_pos hseq, if_neg (by exact Nat.not_lt.2 hfull)]

theorem State.checkSequence_replay (hseq : f.seq ≠ x.arrival) (hacc : x.wasAccepted f.seq = true) {a : Answer}
    (ha : (s.port p).answered f.seq = some a) :
    s.checkSequence p x f = if (s.port p).answerRoom then s.queueAnswer p a else s := by
  unfold State.checkSequence
  dsimp only
  rw [if_neg hseq, if_pos hacc, ha]

theorem State.checkSequence_waiting (hseq : f.seq ≠ x.arrival) (hacc : x.wasAccepted f.seq = true)
    (ha : (s.port p).answered f.seq = none) : s.checkSequence p x f = s := by
  unfold State.checkSequence
  dsimp only
  rw [if_neg hseq, if_pos hacc, ha]

theorem State.checkSequence_outOfSequence (hseq : f.seq ≠ x.arrival) (hacc : x.wasAccepted f.seq ≠ true) :
    s.checkSequence p x f =
      if (s.port p).answerRoom then s.queueAnswer p (outOfSequenceAnswer f x.arrival) else s := by
  unfold State.checkSequence
  dsimp only
  rw [if_neg hseq, if_neg hacc]

/-- With 8 answers waiting a frame of another sequence produces nothing (R166, R167). -/
theorem State.checkSequence_noRoom (hseq : f.seq ≠ x.arrival) (hfull : 8 ≤ (s.port p).answers.length) :
    s.checkSequence p x f = s := by
  have hno : ¬ (s.port p).answerRoom = true := fun k => by
    rw [PortLink.answerRoom_iff] at k
    omega
  by_cases hacc : x.wasAccepted f.seq = true
  · cases ha : (s.port p).answered f.seq with
    | none => exact State.checkSequence_waiting hseq hacc ha
    | some a => rw [State.checkSequence_replay hseq hacc ha, if_neg hno]
  · rw [State.checkSequence_outOfSequence hseq hacc, if_neg hno]

end

/-! ### The window after an ACK -/

/-- The oldest entries up to e leave the window, with the frames of their sequences (R111). -/
theorem Window.progress_eq {w : Window} {before after : List EntryRef} {e : EntryRef}
    (h : w.outstanding = before ++ e :: after) (seqs : List SeqNum) (k : Nat) :
    w.progress (before ++ [e]).length seqs k =
      { w with
        outstanding := after
        retryCount := 0
        timer := if after = [] then none else some w.ackTimeout
        credit := min 15 (w.credit + k)
        retransmissions := w.retransmissions.filter (fun f => decide (f.seq ∉ seqs))
        newDeliveries := w.newDeliveries.filter (fun f => decide (f.seq ∉ seqs)) } := by
  have hdrop : w.outstanding.drop (before ++ [e]).length = after := by simp [h]
  have hfilter : ∀ l : List DeliveryFrame, l.filter (fun f => !seqs.contains f.seq) =
      l.filter (fun f => decide (f.seq ∉ seqs)) := fun l => List.filter_congr (fun f _ => by simp)
  unfold Window.progress
  dsimp only
  rw [hdrop, hfilter, hfilter]
  cases after <;> rfl

theorem onlyPort_setWindow_completeAll (s : State) (p : PortId) (l : List EntryRef) (w : Window) :
    Claims.OnlyPort s ((s.completeAll l).setWindow p w) p ∧
      ((s.completeAll l).setWindow p w).port p = { s.port p with window := w } :=
  onlyPort_of (by simp) (by simp) (by simp) (by simp) (by simp)

/-! ### An acknowledged entry is freed (R22, R46) -/

/-- The freeing of an acknowledged message whose grant holds nothing (R46). -/
theorem State.freeEntry_plain {s : State} {d : Nat} {m : Descriptor} (hd : s.descriptor d = some m)
    (hg : Claims.NoGrantHeld m) :
    s.freeEntry (.message d) .acknowledged .outstanding = Claims.messageReleased s d m true := by
  rw [Claims.messageReleased_eq]
  unfold State.freeEntry
  simp only [hd]
  unfold State.freeDescriptor
  rcases hg with hg | ⟨g, r, hg, hr⟩
  · rw [hg]; rfl
  · rw [hg]; simp only [State.releaseGrant, hr]; rfl

/-- The freeing of an acknowledged message whose grant is RESERVED: the slot is claimed first (R22). -/
theorem State.freeEntry_reserved {s : State} {d n : Nat} {m : Descriptor} {g : CarriedGrant}
    (hd : s.descriptor d = some m) (hg : m.grant = some g) (hr : g.state = .reserved n) {a : State}
    (ha : s.definitionClaim m.target n d = a) (hrec : a.descriptors = s.descriptors) :
    s.freeEntry (.message d) .acknowledged .outstanding = Claims.messageReleased a d m true := by
  rw [Claims.messageReleased_eq]
  unfold State.freeEntry
  simp only [hd]
  unfold State.freeDescriptor
  rw [hg]
  simp only [State.releaseGrant, hr, ha, hrec]
  rfl

theorem State.familyOpen_iff {s : State} {f : Nat} {y : Family} (h : s.family f = some y) :
    s.familyOpen f = true ↔ y.state = .opened := by
  simp [State.familyOpen, h]

/-- The definition claim of an OPEN family (R22). -/
theorem State.definitionClaim_opened {s : State} {t : StationId} {n d : Nat} {z : Slot} {y : Family}
    (hz : s.slot t n = some z) (hst : z.status = .reserved d) (hy : s.family z.family = some y)
    (ho : y.state = .opened) :
    s.definitionClaim t n d =
      Claims.withTable s t (Table.put (Bank.get s.tables t) n { z with status := .defined }) := by
  unfold State.definitionClaim
  rw [Claims.reservedSlot_some s t n d z hz hst]
  exact if_pos ((State.familyOpen_iff hy).2 ho)

/-- The definition claim of a REVOKING family frees the slot (R18, R22). -/
theorem State.definitionClaim_revoking {s : State} {t : StationId} {n d : Nat} {z : Slot} {y : Family}
    (hz : s.slot t n = some z) (hst : z.status = .reserved d) (hy : s.family z.family = some y)
    (ho : y.state = .revoking) :
    s.definitionClaim t n d = Claims.copyEnded (Claims.slotVacated s t n) z.family y := by
  have hno : ¬ s.familyOpen z.family = true := fun k => by
    rw [State.familyOpen_iff hy, ho] at k
    exact nomatch k
  unfold State.definitionClaim
  rw [Claims.reservedSlot_some s t n d z hz hst, Claims.copyEnded_eq (Claims.slotVacated s t n) z.family y hy]
  exact if_neg hno

/-- A family with more copies keeps its record when one ends (R18). -/
theorem Claims.copyEnded_of_lt {s : State} {f : Nat} {y : Family} (h : 1 < y.live) :
    Claims.copyEnded s f y = { s with families := Table.put s.families f { y with live := y.live - 1 } } := if_pos h

/-- The descriptors stay while a copy ends: a FAMILY CLOSED report takes a report record (R19). -/
theorem State.closeFamily_descriptors (s : State) (f : Nat) (x : Family) :
    (s.closeFamily f x).descriptors = s.descriptors := by
  have hcall : ∀ (a : State) (t : StationId) (c : ReportContent), (a.callReport t c).descriptors = a.descriptors := by
    intro a t c
    rcases a.callReport_cases t c with ⟨-, e⟩ | ⟨q, -, -, -, e⟩ | ⟨-, -, e⟩ <;> rw [e]
    · simp
    · rfl
  unfold State.closeFamily
  dsimp only
  split
  · exact hcall _ _ _
  · rfl

theorem Claims.copyEnded_descriptors (s : State) (f : Nat) (y : Family) :
    (Claims.copyEnded s f y).descriptors = s.descriptors := by
  unfold Claims.copyEnded
  split
  · rfl
  · rw [Claims.familyClosed_eq]; exact s.closeFamily_descriptors f y

/-- A message leaves a queue that does not become UNUSED with it (R46, R50). -/
theorem Claims.messageReleased_kept {s : State} {d : Nat} {m : Descriptor} {q : Queue} (out : Bool)
    (hq : s.queue m.target m.queue = some q)
    (hn : ¬ (q.state = .purging ∧ q.passComplete = true ∧ q.heldMessages ≤ 1)) :
    Claims.messageReleased s d m out =
      Claims.withQueue
        { s with
          descriptors := Table.erase s.descriptors d
          freeDescriptors := s.freeDescriptors + 1
          freeCells := s.freeCells + m.cells
          heldCells := Bank.set s.heldCells m.target (Bank.get s.heldCells m.target - m.cells) } m.target m.queue
        { q with
          outstanding := if out then q.outstanding - 1 else q.outstanding
          heldMessages := q.heldMessages - 1
          heldCells := q.heldCells - m.cells } := by
  have hq' : State.queue { s with
      descriptors := Table.erase s.descriptors d
      freeDescriptors := s.freeDescriptors + 1
      freeCells := s.freeCells + m.cells } m.target m.queue = some q := hq
  unfold Claims.messageReleased Claims.heldReleased
  simp only [hq']
  unfold Claims.settled
  rw [if_neg]
  rintro ⟨h1, h2, h3⟩
  exact hn ⟨h1, h2, by dsimp only at h3; omega⟩

theorem State.completeAll_singleton (s : State) (e : EntryRef) :
    s.completeAll [e] = s.freeEntry e .acknowledged .outstanding := rfl

/-- The ACK of the oldest delivery alone (R110, R111). -/
theorem exec_ack_oldest {p : PortId} {s : State} {ses cr : Byte} {x : Session} (seq : Byte) {e : EntryRef}
    {after : List EntryRef} (h1 : ses.toNat ≤ 15) (h2 : cr.toNat ≤ 15) (hst : (s.port p).state = .active)
    (hx : (s.port p).session = some x) (hn : ses.toNat = x.number)
    (hout : (s.port p).window.outstanding = e :: after) (he : s.entrySeq e = some seq) :
    exec (.ack p (sealFrame [0x03, ses, 1, seq, cr])) s =
      .next (withPort (s.freeEntry e .acknowledged .outstanding) p
        (Claims.oldestAcked (s.port p) seq after cr.toNat)) := by
  rw [(exec_ack seq h1 h2 hst hx hn).1, State.takeAck_seq (before := []) _ _ hout he (fun _ k => nomatch k)]
  rw [show s.window p = (s.port p).window from rfl, Window.progress_eq (before := []) hout]
  refine congrArg Host.Outcome.next ?_
  have hport : (s.freeEntry e .acknowledged .outstanding).port p = s.port p :=
    State.port_of_ports (s.freeEntry_ports ..) p
  rw [List.nil_append, State.completeAll_singleton, State.setWindow, hport]
  simp [Claims.oldestAcked, he, withPort_eq]

end Sys2Proof.Machine

namespace Sys2Proof.Proofs

open Sys2Proof.Machine
open Sys2Proof.Claims (withPort)

/-- Settles O16. -/
theorem arrivalAtTheArrivalSequence : Obligations.ArrivalAtTheArrivalSequence := by
  intro p s kind ses body x hread hst hx hn
  refine ⟨fun hroom => ?_, fun hfull hl => ?_⟩ <;>
    rw [exec_ingressArrival p _ hread, State.arriveIngress_of_session hst hx hn]
  · rw [State.checkSequence_queued rfl hroom, hn]
    rfl
  · rw [State.checkSequence_overflow rfl hfull, State.protocolError_counted hst hl]
    rfl

/-- Settles O17. -/
theorem arrivalOfAnotherSequence : Obligations.ArrivalOfAnotherSequence := by
  intro p s kind ses seq body x hread hst hx hn hseq
  refine ⟨fun a hacc ha hroom => ?_, fun hacc ha => ?_, fun hacc hroom => ?_, fun hfull => ?_⟩ <;>
    rw [exec_ingressArrival p _ hread, State.arriveIngress_of_session hst hx hn]
  · have hans : (s.port p).answered seq = some a := ha
    rw [State.checkSequence_replay (f := ⟨kind, ses.toNat, seq, body⟩) hseq ((x.wasAccepted_iff seq).2 hacc) hans,
      if_pos ((PortLink.answerRoom_iff _).2 hroom)]
    rfl
  · have hans : (s.port p).answered seq = none := List.find?_eq_none.2 (fun a k => by simpa using ha a k)
    rw [State.checkSequence_waiting (f := ⟨kind, ses.toNat, seq, body⟩) hseq ((x.wasAccepted_iff seq).2 hacc) hans]
  · have hnot : ¬ x.wasAccepted seq = true := fun k => hacc ((x.wasAccepted_iff seq).1 k)
    rw [State.checkSequence_outOfSequence (f := ⟨kind, ses.toNat, seq, body⟩) hseq hnot,
      if_pos ((PortLink.answerRoom_iff _).2 hroom)]
    unfold outOfSequenceAnswer
    cases kind <;> simp only [hn] <;> rfl
  · rw [State.checkSequence_noRoom hseq hfull]

/-- Settles O18. -/
theorem framesOutsideTheSessionAreDiscarded : Obligations.FramesOutsideTheSessionAreDiscarded := by
  intro p s kind ses seq body ind cr hread hind hcr h
  refine ⟨?_, ?_⟩
  · rw [exec_ingressArrival p _ hread, State.arriveIngress_outside h]
  · show execAck _ _ _ = _
    rcases hind with rfl | rfl
    · rw [execAck, show classify (sealFrame [3, ses, 0#8, seq, cr]) = _ from classify_creditFrame seq hread.1 hcr]
      exact congrArg Host.Outcome.next (State.arriveAck_outside h)
    · rw [execAck, show classify (sealFrame [3, ses, 1#8, seq, cr]) = _ from classify_ackFrame seq hread.1 hcr]
      exact congrArg Host.Outcome.next (State.arriveAck_outside h)

/-- Settles O19. -/
theorem ackThatCompletesNothing : Obligations.AckThatCompletesNothing := by
  intro p s ses seq cr x h1 h2 hst hx hn
  refine ⟨(exec_ack seq h1 h2 hst hx hn).2, fun hout hl => ?_⟩
  rw [(exec_ack seq h1 h2 hst hx hn).1]
  refine congrArg Host.Outcome.next ?_
  unfold State.takeAck State.window
  dsimp only
  rw [State.upToSeq_none hout]
  exact State.protocolError_counted hst hl

/-- Settles O20. -/
theorem ackCompletesUpToItsSequence : Obligations.AckCompletesUpToItsSequence := by
  intro p s ses seq cr x before after e h1 h2 hst hx hn hout he hb
  refine ⟨_, (exec_ack seq h1 h2 hst hx hn).1, ?_⟩
  rw [State.takeAck_seq _ _ hout he hb, show s.window p = (s.port p).window from rfl, Window.progress_eq hout]
  exact onlyPort_setWindow_completeAll s p _ _

/-- The second half of O21: the whole next state for each kind of acknowledged entry. -/
theorem ackOfTheOldestDelivery {p : PortId} {s : State} {ses seq cr : Byte} {x : Session} {after : List EntryRef}
    (h1 : ses.toNat ≤ 15) (h2 : cr.toNat ≤ 15) (hst : (s.port p).state = .active)
    (hx : (s.port p).session = some x) (hn : ses.toNat = x.number) :
    let acked := fun h : State => withPort h p (Claims.oldestAcked (s.port p) seq after cr.toNat)
    (∀ d m, (s.port p).window.outstanding = .message d :: after → s.descriptor d = some m → m.seq = some seq →
      (Claims.NoGrantHeld m →
        exec (.ack p (sealFrame [0x03, ses, 1, seq, cr])) s = .next (acked (Claims.messageReleased s d m true))) ∧
      ∀ g n z y, m.grant = some g → g.state = .reserved n → s.slot m.target n = some z → z.status = .reserved d →
        s.family z.family = some y →
        (y.state = .opened → exec (.ack p (sealFrame [0x03, ses, 1, seq, cr])) s = .next
          (acked (Claims.messageReleased
            (Claims.withTable s m.target (Table.put (Bank.get s.tables m.target) n { z with status := .defined })) d m
              true))) ∧
        (y.state = .revoking → exec (.ack p (sealFrame [0x03, ses, 1, seq, cr])) s = .next
          (acked (Claims.messageReleased (Claims.copyEnded (Claims.slotVacated s m.target n) z.family y) d m true)))) ∧
    (∀ k m, (s.port p).window.outstanding = .report k :: after → s.report k = some m → m.seq = some seq →
      exec (.ack p (sealFrame [0x03, ses, 1, seq, cr])) s = .next (acked (Claims.reportReleased s k m true))) := by
  dsimp only
  refine ⟨fun d m hout hd hseq => ?_, fun k m hout hk hseq => ?_⟩
  · have hack := exec_ack_oldest seq h1 h2 hst hx hn hout (by simp [State.entrySeq, hd, hseq])
    refine ⟨fun hg => ?_, fun g n z y hg hr hz hzs hy => ⟨fun ho => ?_, fun ho => ?_⟩⟩
    · rw [hack, State.freeEntry_plain hd hg]
    · rw [hack, State.freeEntry_reserved hd hg hr (State.definitionClaim_opened hz hzs hy ho) rfl]
    · rw [hack, State.freeEntry_reserved hd hg hr (State.definitionClaim_revoking hz hzs hy ho)
        (Claims.copyEnded_descriptors _ _ _)]
  · rw [exec_ack_oldest seq h1 h2 hst hx hn hout (by simp [State.entrySeq, hk, hseq]), Claims.reportReleased_eq]
    unfold State.freeEntry
    simp only [hk]
    rfl

/-- Settles O21: the slot is claimed or freed, and the record then leaves its queue. -/
theorem ackDefinesTheReservedSlot : Obligations.AckDefinesTheReservedSlot := by
  refine ⟨fun p s ses seq cr x after d n m g z y q h1 h2 hst hx hn hout hd hseq hg hr hz hzs hy hlive hq hkept => ?_,
    fun p s ses seq cr x after h1 h2 hst hx hn => ackOfTheOldestDelivery h1 h2 hst hx hn⟩
  obtain ⟨hopened, hrevoking⟩ := ((ackOfTheOldestDelivery h1 h2 hst hx hn).1 d m hout hd hseq).2 g n z y hg hr hz hzs hy
  rcases (by cases y.state <;> simp : y.state = .opened ∨ y.state = .revoking) with ho | ho
  · refine ⟨_, hopened ho, ?_⟩
    dsimp only
    rw [Claims.messageReleased_kept (s := Claims.withTable s m.target _) (q := q) true hq hkept]
    exact ⟨fun _ => ⟨rfl, rfl, rfl, rfl⟩, fun k => absurd (ho.symm.trans k) nofun, rfl, rfl, rfl, rfl, rfl, rfl, rfl, rfl, rfl⟩
  · refine ⟨_, hrevoking ho, ?_⟩
    dsimp only
    rw [Claims.copyEnded_of_lt hlive,
      Claims.messageReleased_kept (s := { Claims.slotVacated s m.target n with families := _ }) (q := q) true hq hkept]
    exact ⟨fun k => absurd (ho.symm.trans k) nofun, fun _ => ⟨rfl, rfl, rfl, rfl⟩, rfl, rfl, rfl, rfl, rfl, rfl, rfl, rfl, rfl⟩

end Sys2Proof.Proofs
end

section
/-! PROOFS. How an offered CONTROL frame is read and answered (R165, R180, R181, R198, R199), for every request. -/

namespace Sys2Proof.Machine

open Sys2Proof.Claims (Requested Offered IsFlag rightsOf budgetOf Enabled Manager answered responded withPort)

/-! ### Fields -/

theorem readRights_of {r : Byte} (h : r.toNat < 16) : readRights r = some (rightsOf r) := if_pos h

theorem rightsOf_isEmpty {r : Byte} (h : r.toNat < 16) (h0 : r ≠ 0#8) : (rightsOf r).isEmpty = false := by
  have hall : ∀ b : Fin 16, b ≠ 0 → (rightsOf (BitVec.ofNat 8 b)).isEmpty = false := by decide
  have hr : BitVec.ofNat 8 (⟨r.toNat, h⟩ : Fin 16) = r := BitVec.eq_of_toNat_eq (by simp)
  rw [← hr]
  refine hall _ (fun k => h0 (BitVec.eq_of_toNat_eq ?_))
  simpa using congrArg Fin.val k

theorem readBudget_of {b2 b1 b0 : Byte} (h : IsFlag b2) : readBudget b2 b1 b0 = some (budgetOf b2 b1 b0) := by
  rcases h with rfl | rfl <;> rfl

theorem readFlag_of {b : Byte} (h : IsFlag b) : readFlag b = some (decide (b = 1#8)) := by
  rcases h with rfl | rfl <;> rfl

theorem readFlag_eq_none {b : Byte} (h : ¬ IsFlag b) : readFlag b = none := by
  obtain ⟨h0, h1⟩ := not_or.1 h
  rw [readFlag, if_neg h0, if_neg h1]

theorem asStation_of {n : Nat} {u : StationId} (h : n = u.val) : asStation n = some u := by
  subst h
  exact dif_pos u.isLt

theorem withStation_of {s : State} {n : Nat} {u : StationId} (h : n = u.val) (work : StationId → Reply) :
    withStation s n work = work u := by
  rw [withStation, asStation_of h]

/-! ### The state in which the head frame has left the queue -/

/-- State s in which `rest` is what port p's ingress queue holds (R165). -/
def State.popped (s : State) (p : PortId) (rest : List IngressFrame) : State :=
  s.setPort p { s.port p with ingress := rest }

/-- Popping the queue and then answering are the two halves of `answered` (R165). -/
theorem State.produceAnswer_popped (s : State) (p : PortId) (rest : List IngressFrame) (a : Answer) :
    (s.popped p rest).produceAnswer p a = answered s p rest a := by
  unfold State.produceAnswer State.popped
  dsimp only
  rw [State.port_setPort_self]
  unfold State.setPort answered
  rw [Bank.set_set]
  rfl

/-! ### An offered request -/

section

variable {α : Type} {r : Request α} {s t : State} {p : PortId} {f : IngressFrame} {rest : List IngressFrame}
  {code : Byte} {params : List Byte} {a : α} {status : Status} {result : List Byte}

/-- An offered frame of this request is answered in the state in which it has left the queue (R180). -/
theorem Request.take_of_offered {len : Byte} (h : Offered s p .control f rest (code :: len :: params))
    (hcode : code.toNat = r.code) : r.take p s = r.answer (s.popped p rest) p f len.toNat params := by
  obtain ⟨hin, hkind, hbody, hroom⟩ := h
  exact r.take_offered p s f rest code len params hin hkind hroom hbody hcode

/-- An offered request whose parameters are read gets the reply of its checks and its owning rule (R181, R183). -/
theorem Request.take_read (h : Requested s p f rest code params) (hcode : code.toNat = r.code)
    (hlen : params.length = r.length) (hsmall : r.length < 256) (hread : r.read params = some a)
    (hreply : r.decide (s.popped p rest) p a = ⟨status, result, t.popped p rest⟩) :
    r.take p s =
      if status.isSuccess then r.finish (responded t p f rest status result) p
      else responded t p f rest status result := by
  have hparams : r.parameters (BitVec.ofNat 8 params.length).toNat params = some a := by
    rw [Request.parameters, if_pos]
    · exact hread
    · rw [BitVec.toNat_ofNat, Nat.mod_eq_of_lt (by omega)]
      exact ⟨rfl, hlen⟩
  rw [Request.take_of_offered h hcode, r.answer_read _ _ _ _ _ _ hparams, hreply]
  dsimp only
  rw [State.produceAnswer_popped]
  rfl

/-- The checks pass and the owning rule answers (R181). -/
theorem Request.take_worked (h : Requested s p f rest code params) (hcode : code.toNat = r.code)
    (hlen : params.length = r.length) (hsmall : r.length < 256) (hread : r.read params = some a)
    (henabled : r.anyStation = true ∨ Enabled s p) (hperm : r.permitted (s.popped p rest) p a = true)
    (hrange : r.inRange a = true) (hfin : r.finish = fun s _ => s)
    (hwork : r.work (s.popped p rest) p a = ⟨status, result, t.popped p rest⟩) :
    r.take p s = responded t p f rest status result := by
  have hreply : r.decide (s.popped p rest) p a = ⟨status, result, t.popped p rest⟩ := by
    rw [r.decide_passed (s.popped p rest) p a (henabled.imp id (fun k => (s.isEnabled_iff p).2 k)) hperm hrange, hwork]
  rw [Request.take_read h hcode hlen hsmall hread hreply, hfin]
  exact ite_self _

end

end Sys2Proof.Machine
end

section
/-! PROOFS. The requests of chapter 1 (R24 to R30), and the statements O26 to O30. -/

namespace Sys2Proof.Machine

open Sys2Proof.Claims (Requested Offered IsFlag rightsOf budgetOf Enabled Manager answered responded withPort)

theorem State.popped_of_ports {s t : State} (p : PortId) (rest : List IngressFrame) (h : t.ports = s.ports) :
    t.popped p rest = { t with ports := (s.popped p rest).ports } := by
  unfold State.popped State.setPort State.port
  rw [h]

/-! ### The permission classes (R182) -/

theorem State.holdsManage_popped {s : State} {p : PortId} {rest : List IngressFrame} (h : Manager s p) :
    (s.popped p rest).holdsManage p = true := (s.holdsManage_iff p).2 h

theorem permitSelfOr_of {s : State} {p u : PortId} {rest : List IngressFrame} {n : Nat} (hn : n = u.val)
    (h : u = p ∨ Manager s p) : permitSelfOr (s.popped p rest) p n = true := by
  unfold permitSelfOr
  rcases h with rfl | h
  · rw [hn, beq_self_eq_true, Bool.true_or]
  · rw [State.holdsManage_popped h, Bool.or_true]

theorem permitIssuer_of {s : State} {p : PortId} {rest : List IngressFrame} {f : Nat} {y : Family}
    (hy : s.family f = some y)
    (h : Manager s p ∨ (y.issuer = p ∧ y.issuerGeneration = (s.station p).generation)) :
    permitIssuer (s.popped p rest) p f = true := by
  unfold permitIssuer
  rw [show (s.popped p rest).family f = some y from hy]
  rcases h with h | ⟨h1, h2⟩
  · rw [State.holdsManage_popped h, Bool.true_or]
  · rw [Option.any_some, h1, h2, beq_self_eq_true, Bool.true_and,
      show (s.station p).generation = ((s.popped p rest).station p).generation from rfl, beq_self_eq_true, Bool.or_true]

/-! ### The parameters -/

theorem readIssueGrant_of (q t1 t0 n1 n0 : Byte) {r b2 b1 b0 fl : Byte} (hr : r.toNat < 16) (hb : IsFlag b2)
    (hfl : IsFlag fl) :
    readIssueGrant [q, r, b2, b1, b0, t1, t0, fl, n1, n0] =
      some ⟨q.toNat, rightsOf r, budgetOf b2 b1 b0, number16 t1 t0, fl = 1#8, number16 n1 n0⟩ := by
  simp only [readIssueGrant, readRights_of hr, readBudget_of hb, readFlag_of hfl]

theorem readInstallGrant_of (t f1 f0 n1 n0 : Byte) {r b2 b1 b0 : Byte} (hr : r.toNat < 16) (hb : IsFlag b2) :
    readInstallGrant [t, f1, f0, r, b2, b1, b0, n1, n0] =
      some ⟨t.toNat, number16 f1 f0, rightsOf r, budgetOf b2 b1 b0, number16 n1 n0⟩ := by
  simp only [readInstallGrant, readRights_of hr, readBudget_of hb]

/-! ### The owning rules -/

/-- The checks of ISSUE GRANT pass (R24). -/
theorem State.issueFailure_passed {s : State} {t : StationId} {a : IssueGrantParams} {x : Queue} (hq0 : a.queue ≠ 0)
    (hq : s.queue t a.queue = some x) (hst : x.state ≠ .purging) (hp : a.preferred ≠ 0 → s.slot t a.preferred = none)
    (hl : Bank.get s.slotsInUse t < (s.station t).grantLimit) (hs : s.storeUse < 4096)
    (hf : Table.lowestFree s.families 1 ≤ 1023) : s.issueFailure t a = none := by
  have hpref : ¬ (a.preferred ≠ 0 ∧ (s.slot t a.preferred).isSome = true) := fun ⟨h0, h1⟩ => by
    rw [hp h0] at h1
    exact nomatch h1
  have hlimit : ¬ ((!s.belowGrantLimit t) = true) := by simpa [State.belowGrantLimit] using hl
  have hroom : ¬ ((!s.storeHasRoom) = true) := by
    rw [show s.storeHasRoom = true from decide_eq_true (p := s.storeUse < Config.storeCapacity) hs]
    exact nofun
  unfold State.issueFailure
  rw [if_neg hq0, hq]
  dsimp only
  rw [if_neg hst, if_neg hpref, if_neg hlimit, if_neg hroom, if_neg (by exact Nat.not_lt.2 hf)]

/-- DROP GRANT of a DEFINED slot frees it, and its family has one copy less (R26). -/
theorem State.dropGrant_defined {s : State} {p t : StationId} {n : Nat} {x : Slot} {y : Family} (rest : List IngressFrame)
    (hx : s.slot t n = some x) (hd : x.status = .defined) (hy : s.family x.family = some y) :
    State.dropGrant (s.popped p rest) t n =
      ⟨.done, bytes16 x.family ++ bytes16 (y.live - 1),
        (Claims.copyEnded (Claims.slotVacated s t n) x.family y).popped p rest⟩ := by
  unfold State.dropGrant
  rw [show (s.popped p rest).slot t n = some x from hx]
  dsimp only
  rw [hd]
  dsimp only
  rw [show (s.popped p rest).family x.family = some y from hy,
    Claims.copyEnded_eq (Claims.slotVacated s t n) x.family y hy, State.popped_of_ports (s := s) (t := (Claims.slotVacated s t n).lowerLive x.family) p rest (by simp [Claims.slotVacated_eq])]
  exact congrArg (Reply.mk .done _) (State.lowerLive_withPorts (s.vacateSlot t n) (s.popped p rest).ports x.family)

theorem State.raiseLive_of {s : State} {f : Nat} {y : Family} (h : s.family f = some y) :
    s.raiseLive f = { s with families := Table.put s.families f { y with live := y.live + 1 } } := by
  unfold State.raiseLive
  rw [h]
  rfl

/-- The checks of INSTALL GRANT pass (R27, R28). -/
theorem State.installInto_passed {s : State} {t : StationId} {a : InstallGrantParams} {y : Family}
    (he : Enabled s t) (hy : s.family a.family = some y) (ho : y.state = .opened)
    (hw : a.rights.within y.ceiling = true) (hp : a.preferred ≠ 0 → s.slot t a.preferred = none)
    (hl : Bank.get s.slotsInUse t < (s.station t).grantLimit) (hs : s.storeUse < 4096) :
    s.installInto t a =
      ⟨.done, bytes16 (s.chosenSlot t a.preferred) ++ bytes16 (y.live + 1),
        (s.takeSlot t (s.chosenSlot t a.preferred) ⟨.defined, a.family, a.rights, a.budget⟩).raiseLive a.family⟩ := by
  have hpref : ¬ (a.preferred ≠ 0 ∧ (s.slot t a.preferred).isSome = true) := fun ⟨h0, h1⟩ => by
    rw [hp h0] at h1
    exact nomatch h1
  have hen : ¬ ((!s.isEnabled t) = true) := by simp [(s.isEnabled_iff t).2 he]
  have hlimit : ¬ ((!s.belowGrantLimit t) = true) := by simpa [State.belowGrantLimit] using hl
  have hroom : ¬ ((!s.storeHasRoom) = true) := by
    rw [show s.storeHasRoom = true from decide_eq_true (p := s.storeUse < Config.storeCapacity) hs]
    exact nofun
  unfold State.installInto
  rw [if_neg hen, hy]
  dsimp only
  rw [if_neg (by rw [ho]; exact nofun), if_neg (by simp [hw]), if_neg hpref, if_neg hlimit, if_neg hroom]

end Sys2Proof.Machine

namespace Sys2Proof.Proofs

open Sys2Proof.Machine

/-- Settles O26. -/
theorem issueGrantOpensAFamily : Obligations.IssueGrantOpensAFamily := by
  intro p s f rest q r b2 b1 b0 t1 t0 fl n1 n0 x h he hq1 hq2 hr hr0 hb hb0 hfl hn hq hst hp hl hs hfam
  refine congrArg Host.Outcome.next (Request.take_worked h rfl rfl (by decide) (readIssueGrant_of q t1 t0 n1 n0 hr hb hfl)
    (.inr he) rfl ?_ rfl ?_)
  · simp only [issueGrantRequest, rightsOf_isEmpty hr hr0, Config.lastQueue, Config.slotsPerTable]
    simp [hq2, hb0, hn]
  · show State.issueGrant _ _ _ = _
    rw [State.issueGrant, State.issueFailure_passed (s := s.popped p rest)
      (a := ⟨q.toNat, Claims.rightsOf r, Claims.budgetOf b2 b1 b0, number16 t1 t0, fl = 1#8, number16 n1 n0⟩) (x := x)
      (Nat.one_le_iff_ne_zero.1 hq1) hq hst hp hl hs hfam]
    rfl

/-- The reading and the checks of a DROP GRANT request on a DEFINED slot (R26, R181). -/
theorem dropGrant_exec {p : PortId} {s : State} {f : IngressFrame} {rest : List IngressFrame} {n1 n0 : Byte} {x : Slot}
    {y : Family} (h : Claims.Requested s p f rest 0x11 [n1, n0]) (he : Claims.Enabled s p) (hn1 : 1 ≤ number16 n1 n0)
    (hn2 : number16 n1 n0 ≤ 1023) (hx : s.slot p (number16 n1 n0) = some x) (hd : x.status = .defined)
    (hy : s.family x.family = some y) :
    exec (.dropGrant p) s = .next
      (Claims.responded (Claims.copyEnded (Claims.slotVacated s p (number16 n1 n0)) x.family y) p f rest .done
        (bytes16 x.family ++ bytes16 (y.live - 1))) := by
  refine congrArg Host.Outcome.next (Request.take_worked (a := number16 n1 n0) h rfl rfl (by decide) rfl (.inr he) rfl ?_
    rfl (State.dropGrant_defined rest hx hd hy))
  simp [dropGrantRequest, Config.slotsPerTable, hn1, hn2]

/-- Settles O27. -/
theorem dropGrantLowersTheLiveCount : Obligations.DropGrantLowersTheLiveCount := by
  intro p s f rest n1 n0 x y h he hn1 hn2 hx hd hy hlive
  rw [dropGrant_exec h he hn1 hn2 hx hd hy, Claims.copyEnded_of_lt hlive]
  rfl

/-- Settles O28. -/
theorem dropOfTheLastCopyClosesTheFamily : Obligations.DropOfTheLastCopyClosesTheFamily := by
  intro p s f rest n1 n0 x y h he hn1 hn2 hx hd hy hlive
  let v := Claims.slotVacated s p (number16 n1 n0)
  have hclosed : Claims.copyEnded (Claims.slotVacated s p (number16 n1 n0)) x.family y =
      Claims.familyClosed (Claims.slotVacated s p (number16 n1 n0)) x.family y := if_neg (by omega)
  have hzero : bytes16 (y.live - 1) = [0, 0] := by rw [hlive]; rfl
  rw [dropGrant_exec h he hn1 hn2 hx hd hy, hclosed, hzero]
  refine ⟨fun hr => ?_, fun q hr hen hgen hq hfree hroom => ?_, fun hr hcur => ?_, fun q hr hcur hq hlost => ?_⟩
  · rw [Claims.familyClosed_silent (.inl hr)]
    rfl
  · rw [Claims.familyClosed_reported (s := v) hr ⟨hen, hgen⟩,
      Claims.reported_placed (s := { v with families := _ }) _ hen hq hfree hroom]
    rfl
  · rw [Claims.familyClosed_silent (s := v) (.inr hcur)]
    rfl
  · rw [Claims.familyClosed_reported (s := v) hr hcur,
      Claims.reported_lost (s := { v with families := _ }) _ hcur.1 hq hlost]
    rfl

/-- Settles O29. -/
theorem installGrantDefinesASlot : Obligations.InstallGrantDefinesASlot := by
  intro p s f rest t f1 f0 r b2 b1 b0 n1 n0 u y h hm hu hf1 hf2 hr hr0 hb hb0 hn he hy ho hw hp hl hs
  refine congrArg Host.Outcome.next (Request.take_worked h rfl rfl (by decide) (readInstallGrant_of t f1 f0 n1 n0 hr hb)
    (.inr hm.1) (State.holdsManage_popped hm) ?_ rfl ?_)
  · have hu7 : t.toNat ≤ 7 := by omega
    simp only [installGrantRequest, rightsOf_isEmpty hr hr0, Config.familyCapacity, Config.slotsPerTable]
    simp [hu7, hf1, hf2, hb0, hn]
  · show withStation _ t.toNat _ = _
    rw [withStation_of hu, State.installInto_passed (s := s.popped p rest)
      (a := ⟨t.toNat, number16 f1 f0, Claims.rightsOf r, Claims.budgetOf b2 b1 b0, number16 n1 n0⟩) (y := y) he hy ho hw hp hl hs,
      State.raiseLive_of (y := y) (by exact hy)]
    rfl

/-- Settles O30. -/
theorem readGrantAndReadFamilyShowTheRecord : Obligations.ReadGrantAndReadFamilyShowTheRecord := by
  intro p s f rest t n1 n0 u he
  refine ⟨fun h hu hperm hn1 hn2 => ?_, fun y h hy hperm hn1 hn2 => ?_⟩
  · refine congrArg Host.Outcome.next (Request.take_worked (a := (t.toNat, number16 n1 n0)) h rfl rfl (by decide) rfl
      (.inr he) (permitSelfOr_of hu hperm) ?_ rfl ?_)
    · have hu7 : t.toNat ≤ 7 := by omega
      simp [readGrantRequest, Config.slotsPerTable, hu7, hn1, hn2]
    · show withStation _ t.toNat _ = _
      rw [withStation_of hu, State.readGrant]
      show Reply.mk _ _ _ = _
      congr 1
      show _ = _ ++ bytes16 (Bank.get s.slotsInUse u) ++ bytes16 (s.station u).grantLimit ++ bytes16 s.storeUse
      rw [show (s.popped p rest).slot u (number16 n1 n0) = s.slot u (number16 n1 n0) from rfl]
      cases hx : s.slot u (number16 n1 n0) with
      | none => rfl
      | some x =>
        dsimp only
        rw [State.slotFields, show (s.popped p rest).family x.family = s.family x.family from rfl]
        cases hy : s.family x.family with
        | none => cases hst : x.status <;> simp [slotStateCode, familyStateCode, hst] <;> rfl
        | some y => cases hst : x.status <;> cases ho : y.state <;> simp [slotStateCode, familyStateCode, hst, ho] <;> rfl
  · refine congrArg Host.Outcome.next (Request.take_worked (a := number16 n1 n0) h rfl rfl (by decide) rfl
      (.inr he) (permitIssuer_of hy hperm) ?_ rfl ?_)
    · simp [readFamilyRequest, Config.familyCapacity, hn1, hn2]
    · show State.readFamily _ p _ = _
      rw [State.readFamily, show (s.popped p rest).family (number16 n1 n0) = some y from hy]
      dsimp only
      congr 2
      cases y.state <;> rfl

end Sys2Proof.Proofs
end

section
/-! PROOFS. The requests of chapters 2 and 4 (R51 to R57, R94 to R96), and the statements O31 to O34. -/

namespace Sys2Proof.Machine

open Sys2Proof.Claims (Requested IsFlag Enabled Manager answered responded)

theorem Band.ofNumber_of {n : Nat} {b : Band} (h : n = b.number) : Band.ofNumber n = some b := by
  subst h
  cases b <;> rfl

/-! ### A queue leaves a band (R84, R85) -/

theorem List.filter_bne_eq (l : List Nat) (q : Nat) : l.filter (· != q) = l.filter (fun r => decide (r ≠ q)) :=
  List.filter_congr (fun r _ => by rw [bne, Bool.eq_iff_iff]; simp)

/-- The settling of band b, as deficit and visit read after it (R85). -/
theorem Scheduler.settleEmptied_reads (sch : Scheduler) (b : Band) :
    (∀ d : DrrBand, (sch.settleEmptied b).deficit.get d =
      if d.band = b ∧ sch.active.get b = [] then 0 else sch.deficit.get d) ∧
    (∀ e : DrrBand, e.band = b → (sch.settleEmptied b).visitOpen =
      (sch.visitOpen && !decide (sch.pointer.band = b ∧ sch.active.get b = []))) ∧
    (b.drr = none → sch.settleEmptied b = sch) := by
  refine ⟨fun d => ?_, fun e he => ?_, fun hb => by unfold Scheduler.settleEmptied; rw [hb]⟩
  · by_cases hempty : sch.active.get b = []
    · cases hb : b.drr with
      | none =>
        have hne : d.band ≠ b := fun k => by rw [← k, DrrBand.drr_band] at hb; exact nomatch hb
        rw [if_neg (fun k => hne k.1)]
        unfold Scheduler.settleEmptied
        rw [hb]
      | some c =>
        have hc : c.band = b := by cases b <;> cases hb <;> rfl
        subst hc
        rw [sch.settleEmptied_drr c hempty]
        dsimp only
        rw [DrrCounts.get_set]
        by_cases hd : d = c
        · rw [if_pos hd, if_pos ⟨congrArg DrrBand.band hd, hempty⟩]
        · rw [if_neg hd, if_neg (fun k => hd (DrrBand.band_inj k.1))]
    · rw [sch.settleEmptied_of_ne_nil b hempty, if_neg (fun k => hempty k.2)]
  · subst he
    by_cases hempty : sch.active.get e.band = []
    · rw [sch.settleEmptied_drr e hempty]
      dsimp only
      congr 1
      by_cases hp : sch.pointer = e
      · simp [hp, hempty]
      · have hne : sch.pointer.band ≠ e.band := fun k => hp (DrrBand.band_inj k)
        simp [hp, hne]
    · rw [sch.settleEmptied_of_ne_nil _ hempty]
      simp [hempty]

/-- What the leaving of a queue does is what the statements call it (R84, R85). -/
theorem Scheduler.left_leavesBand (sch : Scheduler) (b : Band) (q : Nat) :
    Claims.LeavesBand sch (sch.left b q) b q := by
  have hself : (sch.left b q).active.get b = (sch.active.get b).filter (fun r => decide (r ≠ q)) := by
    rw [Scheduler.left_active, if_pos rfl, List.filter_bne_eq]
  obtain ⟨hdeficit, hvisit, hb0⟩ := Scheduler.settleEmptied_reads
    { sch with active := sch.active.set b ((sch.active.get b).filter (· != q)) } b
  have hsame : ∀ l, (sch.active.set b l).get b = l := fun l => ActiveLists.get_set_self ..
  have hpointer : (sch.left b q).pointer = sch.pointer := Scheduler.settleEmptied_pointer ..
  dsimp only at hdeficit hvisit
  rw [hsame, List.filter_bne_eq] at hdeficit hvisit
  refine ⟨hself, fun m hm => ?_, hpointer, fun d => ?_, ?_⟩
  · rw [Scheduler.left_active, if_neg hm]
  · rw [hself, Scheduler.left, List.filter_bne_eq]
    exact hdeficit d
  · rw [hself, Scheduler.left, List.filter_bne_eq]
    cases hb : b.drr with
    | some e =>
      have he : e.band = b := by cases b <;> cases hb <;> rfl
      exact hvisit e he
    | none =>
      rw [List.filter_bne_eq] at hb0
      have hne : sch.pointer.band ≠ b := fun k => by rw [← k, DrrBand.drr_band] at hb; exact nomatch hb
      rw [hb0 hb]
      simp [hne]

/-! ### SET BAND (R94, R95) -/

theorem State.setScheduler_setScheduler (s : State) (t : StationId) (x y : Scheduler) :
    (s.setScheduler t x).setScheduler t y = s.setScheduler t y := by
  unfold State.setScheduler
  rw [Bank.set_set]

theorem State.setBand_of {s : State} {t : StationId} {q b : Nat} {n : Band} {x : Queue} (hb : b = n.number) (hq0 : 1 ≤ q)
    (hq : s.queue t q = some x) (hst : x.state ≠ .purging) :
    s.setBand t (q, b) =
      ⟨.done, bytes8 x.band.number ++ bytes8 n.number ++ [flagByte ((s.moveBand t q x n).inActive t n q)],
        s.moveBand t q x n⟩ := by
  unfold State.setBand
  rw [Band.ofNumber_of hb]
  dsimp only
  rw [if_neg (Nat.one_le_iff_ne_zero.1 hq0), hq]
  dsimp only
  rw [if_neg hst]

theorem flagByte_inActive (s : State) (t : StationId) (b : Band) (q : Nat) :
    flagByte (s.inActive t b q) = if q ∈ (s.scheduler t).active.get b then 1 else 0 := by
  simp [flagByte, State.inActive]

end Sys2Proof.Machine

namespace Sys2Proof.Proofs

open Sys2Proof.Machine
open Sys2Proof.Claims (Requested IsFlag Enabled Manager answered responded withQueue withScheduler)

/-- Settles O31. -/
theorem openQueueOpensAnEmptyQueue : Obligations.OpenQueueOpensAnEmptyQueue := by
  intro p s f rest q b d band h he hq hb hd hfree hlimit
  refine congrArg Host.Outcome.next (Request.take_worked (a := (q.toNat, b.toNat, d.toNat)) h rfl rfl (by decide) rfl
    (.inr he) rfl ?_ rfl ?_)
  · have hb3 : b.toNat ≤ 3 := by rw [hb]; cases band <;> decide
    simp [openQueueRequest, Config.lastQueue, hq, hb3, hd]
  · have hnot : ¬ (q.toNat ≠ 0 ∧ (s.queue p q.toNat).isSome = true) := fun ⟨h0, h1⟩ => by
      rw [hfree h0] at h1
      exact nomatch h1
    show State.openQueue _ p _ = _
    rw [State.openQueue, Band.ofNumber_of hb]
    dsimp only
    rw [if_neg (by exact hnot), if_neg (by exact Nat.not_le.2 hlimit)]
    rfl

/-- Settles O32. -/
theorem sealUnsealAndSetDepth : Obligations.SealUnsealAndSetDepth := by
  intro p s f rest q d x he hq1 hq2 hq
  have hq0 : q.toNat ≠ 0 := Nat.one_le_iff_ne_zero.1 hq1
  refine ⟨fun h hst => ?_, fun h hst => ?_, fun h hst hd hheld => ?_⟩
  · refine congrArg Host.Outcome.next (Request.take_worked (a := q.toNat) h rfl rfl (by decide) rfl (.inr he) rfl
      (decide_eq_true hq2) rfl ?_)
    show State.changeSeal _ p _ _ _ = _
    rw [State.changeSeal, if_neg hq0, show (s.popped p rest).queue p q.toNat = some x from hq]
    exact if_pos hst
  · refine congrArg Host.Outcome.next (Request.take_worked (a := q.toNat) h rfl rfl (by decide) rfl (.inr he) rfl
      (decide_eq_true hq2) rfl ?_)
    show State.changeSeal _ p _ _ _ = _
    rw [State.changeSeal, if_neg hq0, show (s.popped p rest).queue p q.toNat = some x from hq]
    exact if_pos hst
  · refine congrArg Host.Outcome.next (Request.take_worked (a := (q.toNat, d.toNat)) h rfl rfl (by decide) rfl (.inr he)
      rfl ?_ rfl ?_)
    · simp [setDepthRequest, Config.lastQueue, hq2, hd]
    · show State.setDepth _ p _ = _
      rw [State.setDepth, if_neg hq0, show (s.popped p rest).queue p q.toNat = some x from hq]
      dsimp only
      rw [if_neg hst, if_neg (Nat.not_lt.2 hheld)]
      rfl

/-- The owning rule of a SET BAND request runs (R94, R95, R181). -/
theorem setBand_exec {p : PortId} {s t : State} {f : IngressFrame} {rest : List IngressFrame} {q b : Byte} {n : Band}
    {x : Queue} (h : Requested s p f rest 0x28 [q, b]) (he : Enabled s p) (hq1 : 1 ≤ q.toNat) (hq2 : q.toNat ≤ 63)
    (hb : b.toNat = n.number) (hq : s.queue p q.toNat = some x) (hst : x.state ≠ .purging)
    (hmove : (s.popped p rest).moveBand p q.toNat x n = t.popped p rest) :
    exec (.setBand p) s = .next
      (responded t p f rest .done
        (bytes8 x.band.number ++ bytes8 n.number ++ [if q.toNat ∈ (t.scheduler p).active.get n then 1 else 0])) := by
  refine congrArg Host.Outcome.next (Request.take_worked (a := (q.toNat, b.toNat)) h rfl rfl (by decide) rfl (.inr he) rfl
    ?_ rfl ?_)
  · have hb3 : b.toNat ≤ 3 := by rw [hb]; cases n <;> decide
    simp [setBandRequest, Config.lastQueue, hq2, hb3]
  · show State.setBand _ p _ = _
    rw [State.setBand_of (s := s.popped p rest) hb hq1 hq hst, hmove, flagByte_inActive]
    rfl

/-- Settles O33. -/
theorem setBandAndSetQuanta : Obligations.SetBandAndSetQuanta := by
  intro p s f rest q b c n x he
  refine ⟨fun h hq1 hq2 hb hq hst => ?_, fun h hq1 hq2 hb hq hst hn => ⟨fun hout hout' => ?_, fun hin => ?_⟩,
    fun h hq1 hq2 hb1 hb2 hc1 hc2 => ?_⟩
  · rw [setBand_exec (t := withQueue s p q.toNat x) h he hq1 hq2 hb hq hst (if_pos rfl)]
    rfl
  · have hno : ¬ (s.popped p rest).inActive p x.band q.toNat = true := fun k => hout ((s.inActive_iff p x.band q.toNat).1 k)
    have hmove : (s.popped p rest).moveBand p q.toNat x n =
        (withQueue s p q.toNat { x with band := n }).popped p rest := by
      rw [State.moveBand, if_neg hn, if_neg hno]
      rfl
    rw [setBand_exec h he hq1 hq2 hb hq hst hmove]
    refine congrArg (fun e : Byte => Host.Outcome.next (responded _ p f rest .done (_ ++ _ ++ [e]))) (if_neg hout')
  · have hyes : (s.popped p rest).inActive p x.band q.toNat = true :=
      (s.inActive_iff p x.band q.toNat).2 hin
    have hmove : (s.popped p rest).moveBand p q.toNat x n =
        (withScheduler (withQueue s p q.toNat { x with band := n }) p
          (((s.scheduler p).left x.band q.toNat).joined n q.toNat)).popped p rest := by
      rw [State.moveBand, if_neg hn, if_pos hyes, State.leaveActive_eq, State.joinActive_eq,
        State.scheduler_setScheduler_self, State.setScheduler_setScheduler]
      rfl
    obtain ⟨hself, hother, hpointer, hdeficit, hvisit⟩ := (s.scheduler p).left_leavesBand x.band q.toNat
    have hget : ∀ m, (((s.scheduler p).left x.band q.toNat).joined n q.toNat).active.get m =
        if m = n then ((s.scheduler p).left x.band q.toNat).active.get n ++ [q.toNat]
        else ((s.scheduler p).left x.band q.toNat).active.get m := fun m => ActiveLists.get_set ..
    refine ⟨((s.scheduler p).left x.band q.toNat).joined n q.toNat, ?_, ?_, ?_, fun m hm1 hm2 => ?_, hpointer, fun d => ?_, ?_⟩
    · rw [setBand_exec h he hq1 hq2 hb hq hst hmove]
      refine congrArg (fun e : Byte => Host.Outcome.next (responded _ p f rest .done (_ ++ _ ++ [e]))) (if_pos ?_)
      rw [show State.scheduler (withScheduler _ p _) p = _ from Bank.get_set_self .., hget, if_pos rfl]
      simp
    · rw [hget, if_neg (fun k => hn k.symm), hself]
    · rw [hget, if_pos rfl, hother n hn]
    · rw [hget, if_neg hm2, hother m hm1]
    · rw [← hself]; exact hdeficit d
    · rw [← hself]; exact hvisit
  · refine congrArg Host.Outcome.next (Request.take_worked (a := (q.toNat, b.toNat, c.toNat)) h rfl rfl (by decide) rfl
      (.inr he) rfl ?_ rfl rfl)
    simp [setQuantaRequest, hq1, hq2, hb1, hb2, hc1, hc2]

/-- Settles O34. -/
theorem readQueueAndReadPoolShowTheCounts : Obligations.ReadQueueAndReadPoolShowTheCounts := by
  intro p s f rest t q u he
  refine ⟨fun h hu hperm hq => ?_, fun h => ?_⟩
  · refine congrArg Host.Outcome.next (Request.take_worked (a := (t.toNat, q.toNat)) h rfl rfl (by decide) rfl
      (.inr he) (permitSelfOr_of hu hperm) ?_ rfl ?_)
    · have hu7 : t.toNat ≤ 7 := by omega
      simp [readQueueRequest, Config.lastQueue, hu7, hq]
    · show withStation _ t.toNat _ = _
      rw [withStation_of hu, State.readQueue]
      show Reply.mk _ _ _ = _
      congr 1
      show _ = _ ++ bytes8 (Bank.get s.rqsInUse u) ++ bytes8 (s.station u).queueLimit ++ bytes16 (Bank.get s.heldCells u) ++
        bytes16 (s.station u).cellQuota
      rw [show (s.popped p rest).queue u q.toNat = s.queue u q.toNat from rfl]
      cases hx : s.queue u q.toNat with
      | none => rfl
      | some x =>
        dsimp only
        rw [State.queueFields, show (s.popped p rest).inActive u x.band q.toNat = s.inActive u x.band q.toNat from rfl,
          flagByte_inActive]
        cases hst : x.state <;> simp [queueStateCode, Queue.segmentCount, flagByte, hst] <;> rfl
  · refine congrArg Host.Outcome.next (Request.take_worked (a := ()) h rfl rfl (by decide) rfl (.inr he) rfl rfl rfl ?_)
    show State.readPool _ p = _
    rw [State.readPool]
    show Reply.mk _ _ _ = _
    congr 1
    have hnone : ∀ o : Option SeqNum, o.isNone = decide (o = none) := by rintro (_ | _) <;> rfl
    have hsome : ∀ o : Option SeqNum, o.isSome = decide (o ≠ none) := by rintro (_ | _) <;> rfl
    simp only [Table.countRecords, hnone, hsome]
    rfl

end Sys2Proof.Proofs
end

section
/-! PROOFS. The requests of chapters 5, 8 and 9 (R120, R121, R143, R172 to R176, R187 to R194), and the statements O35 to
O39. -/

namespace Sys2Proof.Machine

open Sys2Proof.Claims (Requested IsFlag Enabled Manager answered responded withPort withStation)

/-! ### Ports of the popped state -/

/-- The popping changes at most the ingress queue of a port. -/
theorem State.port_popped (s : State) (p u : PortId) (rest : List IngressFrame) :
    (s.popped p rest).port u = { s.port u with ingress := if u = p then rest else (s.port u).ingress } := by
  rw [State.popped, State.port_setPort]
  by_cases hu : u = p
  · subst hu
    rw [if_pos rfl, if_pos rfl]
  · rw [if_neg hu, if_neg hu]

theorem State.setPort_comm (s : State) {p u : PortId} (x y : PortLink) (h : p ≠ u) :
    (s.setPort p x).setPort u y = (s.setPort u y).setPort p x := by
  unfold State.setPort
  dsimp only
  rw [Bank.set_comm _ _ _ h]

/-- A port whose other items change, before or after the popping. -/
theorem State.setPort_popped (s : State) (p u : PortId) (rest : List IngressFrame) (x : PortLink)
    (hx : x.ingress = (s.port u).ingress) :
    (s.popped p rest).setPort u { x with ingress := ((s.popped p rest).port u).ingress } =
      (withPort s u x).popped p rest := by
  rw [State.port_popped]
  unfold State.popped
  rw [withPort_eq]
  by_cases hu : u = p
  · subst hu
    rw [if_pos rfl, State.setPort_setPort, State.setPort_setPort, State.port_setPort_self]
  · rw [if_neg hu, State.setPort_comm _ _ _ (fun k => hu k.symm), State.port_setPort, if_neg (fun k => hu k.symm), ← hx]

theorem State.clearTables_port (s : State) (t u : StationId) :
    (s.clearTables t).port u = (s.port u).cleared (u == t) := by
  show Bank.get (Bank.mapIdx s.ports (fun u x => x.cleared (u == t))) u = _
  rw [Bank.get_mapIdx]
  rfl

section

variable {s : State} {p u : PortId} (f : IngressFrame) (rest : List IngressFrame) (status : Status) (result : List Byte)

theorem responded_port_self : (responded s p f rest status result).port p =
    Claims.answeredPort (s.port p) rest (.response f.session f.seq status result) := Bank.get_set_self _ p _

theorem responded_port_ne (h : u ≠ p) : (responded s p f rest status result).port u = s.port u :=
  Bank.get_set_ne s.ports _ h

end

/-! ### The bytes of states and flags (R201) -/

theorem StationState.code_eq (x : StationState) : Claims.stationCode x = [x.code] := by cases x <;> rfl

theorem PortState.code_eq (x : PortState) : Claims.portCode x = [x.code] := by cases x <;> rfl

theorem fenceCauseCode_eq (x : Option FenceCause) : Claims.causeCode x = [fenceCauseCode x] := by
  rcases x with _ | _ | _ <;> rfl

theorem flagByte_eq (b : Bool) : Claims.flagCode b = [flagByte b] := by cases b <;> rfl

theorem SweepSubject.bytes_eq (x : SweepSubject) : Claims.subjectBytes x = [x.kindCode] ++ x.bytes := by
  cases x <;> rfl

theorem Cursor.bytes_eq (x : Cursor) : Claims.cursorBytes x = ([x.phaseCode], x.bytes) := by cases x <;> rfl

/-- The window items, as the statements say them (R176). -/
theorem State.windowFields_eq (s : State) (w : Window) :
    s.windowFields w =
      bytes8 w.outstanding.length ++ [w.nextSeq] ++ bytes8 w.credit ++
        (match w.timer with
          | none => [0]
          | some k => 1 :: bytes8 k) ++
        bytes8 w.retryCount ++ bytes8 w.ackTimeout ++ bytes8 w.retryLimit ++
        (match w.outstanding with
          | [] => []
          | e :: _ => (s.entrySeq e).toList) := by
  unfold State.windowFields
  cases w.timer <;> cases w.outstanding <;> rfl

/-! ### MANAGE holders (R186) -/

theorem State.holders_eq (s : State) : Claims.holders s = s.manageHolders :=
  List.countP_congr (fun t _ => by simp [State.holdsManage, State.isEnabled])

/-- One item of a list without repetition comes to pass a test that the others pass as before. -/
theorem List.countP_add_one {α : Type} {f g : α → Bool} {a : α} (hf : f a = false) (hg : g a = true)
    (heq : ∀ b, b ≠ a → g b = f b) : ∀ l : List α, l.Nodup → a ∈ l → l.countP g = l.countP f + 1
  | [], _, ha => nomatch ha
  | b :: l, hnodup, ha => by
    obtain ⟨hb, hl⟩ := List.nodup_cons.1 hnodup
    rw [List.countP_cons, List.countP_cons]
    by_cases hab : b = a
    · subst hab
      have hsame : l.countP g = l.countP f :=
        List.countP_congr (fun c hc => by rw [heq c (fun k => hb (k ▸ hc))])
      rw [hsame, hf, hg]
      simp
    · have hmem : a ∈ l := (List.mem_cons.1 ha).resolve_left (fun k => hab k.symm)
      rw [List.countP_add_one hf hg heq l hl hmem, heq b hab]
      omega

theorem State.holdsManage_setStation_self (s : State) (u : StationId) (x : Station) :
    (s.setStation u x).holdsManage u = (x.state == .enabled && x.manage) := by
  simp [State.holdsManage, State.isEnabled]

/-- The holders when a station that held no MANAGE has a new record. -/
theorem State.manageHolders_setStation {s : State} {u : StationId} (x : Station) (hu : s.holdsManage u = false) :
    (s.setStation u x).manageHolders =
      if x.state = .enabled ∧ x.manage = true then s.manageHolders + 1 else s.manageHolders := by
  unfold State.manageHolders stationsInOrder
  have hother : ∀ t, t ≠ u → (s.setStation u x).holdsManage t = s.holdsManage t :=
    fun t ht => State.holdsManage_setStation_ne s x ht
  split
  · rename_i hx
    refine List.countP_add_one hu ?_ hother _ (List.nodup_finRange 8) (List.mem_finRange u)
    rw [State.holdsManage_setStation_self, hx.1, hx.2]
    rfl
  · rename_i hx
    refine List.countP_congr (fun t _ => ?_)
    by_cases ht : t = u
    · subst ht
      rw [State.holdsManage_setStation_self, hu]
      simpa using hx
    · rw [hother t ht]

end Sys2Proof.Machine

namespace Sys2Proof.Proofs

open Sys2Proof.Machine
open Sys2Proof.Claims (Requested IsFlag Enabled Manager answered responded withPort)

/-- Settles O35. -/
theorem portSettingsAndRelease : Obligations.PortSettingsAndRelease := by
  intro p s f rest n a b c u hm hu
  have hu7 : n.toNat ≤ 7 := by omega
  have hport := s.port_popped p u rest
  refine ⟨fun h ha hb => ?_, fun h ha hc => ?_, fun h hst => ?_⟩
  · refine congrArg Host.Outcome.next (Request.take_worked (a := (n.toNat, a.toNat, b.toNat)) h rfl rfl (by decide) rfl
      (.inr hm.1) (State.holdsManage_popped hm) ?_ rfl ?_)
    · simp [setDeliveryTimingRequest, hu7, ha, hb]
    · show withStation _ n.toNat _ = _
      rw [withStation_of hu, ← State.setPort_popped s p u rest
        { s.port u with window := { (s.port u).window with ackTimeout := a.toNat, retryLimit := b.toNat } } rfl]
      simp only [State.setTiming, State.setWindow, State.window, hport]
  · refine congrArg Host.Outcome.next (Request.take_worked (a := ⟨n.toNat, a.toNat, c = 1#8⟩) h rfl rfl (by decide) ?_
      (.inr hm.1) (State.holdsManage_popped hm) ?_ rfl ?_)
    · show readPortLimit [n, a, c] = _
      rw [readPortLimit, readFlag_of hc]
      rfl
    · simp [setPortLimitRequest, hu7, ha]
    · show withStation _ n.toNat _ = _
      rw [withStation_of hu, ← State.setPort_popped s p u rest
        { s.port u with
          protocolLimit := a.toNat
          protocolErrors := 0
          crcErrors := if c = 1#8 then 0 else (s.port u).crcErrors } rfl]
      simp only [State.setPortLimit, hport, decide_eq_true_eq]
  · refine congrArg Host.Outcome.next (Request.take_worked (a := n.toNat) h rfl rfl (by decide) rfl
      (.inr hm.1) (State.holdsManage_popped hm) (decide_eq_true hu7) rfl ?_)
    show withStation _ n.toNat _ = _
    rw [withStation_of hu,
      ← State.setPort_popped s p u rest { s.port u with state := .idle, protocolErrors := 0 } rfl, fenceCauseCode_eq]
    simp only [State.releasePort, hport]
    exact if_pos hst

theorem LimitsParams.inRange_of {t g q c : Nat} (ht : t ≤ 7) (hg : g ≤ 1023) (hq : q ≤ 63) (hc : c ≤ 3072) :
    LimitsParams.inRange ⟨t, g, q, c⟩ = true := by
  simp [LimitsParams.inRange, Config.slotsPerTable, Config.lastQueue, Config.cellCapacity, ht, hg, hq, hc]

/-- SET MANAGE of an ENABLED station (R190). -/
theorem setManage_of {s : State} {u : StationId} (b : Bool) (hu : Enabled s u) :
    s.setManage u b =
      if b = false ∧ (s.station u).manage = true ∧ Claims.holders s = 1 then Reply.refuse s .lastManager
      else ⟨.done, Claims.flagCode (s.station u).manage ++
        bytes8 (Claims.holders (s.setStation u { s.station u with manage := b })),
        s.setStation u { s.station u with manage := b }⟩ := by
  unfold State.setManage
  dsimp only
  rw [if_neg (by simp [(s.isEnabled_iff u).2 hu]), flagByte_eq, State.holders_eq, State.holders_eq]
  by_cases hlast : b = false ∧ (s.station u).manage = true ∧ s.manageHolders = 1
  · rw [if_pos hlast, if_pos (by simp [hlast])]
  · rw [if_neg hlast, if_neg]
    simp only [Bool.and_eq_true, Bool.not_eq_true', beq_iff_eq]
    exact fun k => hlast ⟨k.1.1, k.1.2, k.2⟩

/-- Settles O36. -/
theorem enableStationSetLimitsAndSetManage : Obligations.EnableStationSetLimitsAndSetManage := by
  intro p s f rest n g1 g0 q c1 c0 m u hm hu
  have hu7 : n.toNat ≤ 7 := by omega
  refine ⟨fun h hg hq hc hflag hst => ?_, fun h hg hq hc he hslots hrqs hcells => ?_, fun h hflag he => ?_⟩
  · refine congrArg Host.Outcome.next (Request.take_worked
      (a := ⟨⟨n.toNat, number16 g1 g0, q.toNat, number16 c1 c0⟩, m = 1#8⟩) h rfl rfl (by decide) ?_
      (.inr hm.1) (State.holdsManage_popped hm) (LimitsParams.inRange_of hu7 hg hq hc) rfl ?_)
    · show readEnable [n, g1, g0, q, c1, c0, m] = _
      rw [readEnable, readFlag_of hflag]
      rfl
    · have hno : s.holdsManage u = false := by simp [State.holdsManage, State.isEnabled, hst]
      show withStation _ n.toNat _ = _
      rw [withStation_of hu, State.enableStation]
      refine (if_pos hst).trans ?_
      have hcount : ∀ x, State.manageHolders ((s.popped p rest).enable u x) =
          if x.manage = true then s.manageHolders + 1 else s.manageHolders := fun x =>
        (State.manageHolders_setStation _ hno).trans (if_congr (and_iff_right rfl) rfl rfl)
      dsimp only
      rw [hcount, State.holders_eq]
      have hgen : ∀ x, ((s.popped p rest).enable u x).station u = ⟨.enabled, nextOf255 (s.station u).generation, x.manage,
          x.limits.grantLimit, x.limits.queueLimit, x.limits.cellQuota, (s.station u).lostReports,
          DrrCounts.defaultQuanta⟩ := fun x => Bank.get_set_self ..
      rw [hgen]
      simp only [decide_eq_true_eq]
      rfl
  · refine congrArg Host.Outcome.next (Request.take_worked
      (a := ⟨n.toNat, number16 g1 g0, q.toNat, number16 c1 c0⟩) h rfl rfl (by decide) rfl
      (.inr hm.1) (State.holdsManage_popped hm) (LimitsParams.inRange_of hu7 hg hq hc) rfl ?_)
    show withStation _ n.toNat _ = _
    rw [withStation_of hu, State.setLimits]
    refine (if_neg (by rw [show (s.popped p rest).isEnabled u = true from (s.isEnabled_iff u).2 he]; exact nofun)).trans ((if_neg ?_).trans rfl)
    rintro (k | k | k)
    · exact Nat.not_lt.2 hslots k
    · exact Nat.not_lt.2 hrqs k
    · exact Nat.not_lt.2 hcells k
  · have hread : readByteChoice [n, m] = some (n.toNat, decide (m = 1#8)) := by
      rw [readByteChoice, readFlag_of hflag]
      rfl
    refine ⟨fun hm0 hmu hone => ?_, fun hor => ?_⟩ <;>
      refine congrArg Host.Outcome.next (Request.take_worked (a := (n.toNat, decide (m = 1#8))) h rfl rfl (by decide) hread
        (.inr hm.1) (State.holdsManage_popped hm) (decide_eq_true hu7) rfl ?_) <;>
      show withStation _ n.toNat _ = _ <;>
      rw [withStation_of hu, setManage_of (s := s.popped p rest) _ he]
    · rw [if_pos]
      · rfl
      · exact ⟨by rw [hm0]; rfl, hmu.2, hone⟩
    · rw [if_neg]
      · rfl
      · rintro ⟨k0, k1, k2⟩
        rcases hor with rfl | hor | hor
        · exact nomatch k0
        · exact hor ⟨he, k1⟩
        · exact hor k2

/-- The taking of a CLEAR TABLES request: the RESPONSE first, then the clearing (R193). -/
theorem clearTables_exec {p : PortId} {s : State} {f : IngressFrame} {rest : List IngressFrame} (hm : Manager s p)
    (h : Requested s p f rest 0x4F []) :
    exec (.clearTables p) s = .next ((responded s p f rest .done []).clearTables p) := by
  have hdecide : clearTablesRequest.decide (s.popped p rest) p () = ⟨.done, [], s.popped p rest⟩ :=
    clearTablesRequest.decide_passed (s.popped p rest) p () (.inr ((s.isEnabled_iff p).2 hm.1))
      (State.holdsManage_popped hm) rfl
  exact congrArg Host.Outcome.next (Request.take_read (r := clearTablesRequest) h rfl rfl (by decide) rfl hdecide)

/-- Settles O37. -/
theorem clearTablesKeepsTheRequester : Obligations.ClearTablesKeepsTheRequester := by
  intro p s f rest hm h hst
  refine ⟨_, clearTables_exec hm h, fun u => Bank.get_fill .., fun u => Bank.get_fill .., rfl, rfl, fun u hu => ?_, Bank.get_set_self ..,
    fun u => Bank.get_fill .., fun u => Bank.get_fill .., rfl, rfl, rfl, rfl, rfl, fun u => Bank.get_fill .., rfl, rfl,
    rfl, rfl, ?_, fun u hu => ?_, ?_, fun u hu => ?_⟩
  · exact (Bank.get_set_ne _ _ hu).trans (Bank.get_fill ..)
  · rw [State.clearTables_station, beq_self_eq_true]
    rfl
  · rw [State.clearTables_station, beq_false_of_ne hu]
    rfl
  · rw [State.clearTables_port, responded_port_self, beq_self_eq_true, PortLink.cleared]
    have hact : (Claims.answeredPort (s.port p) rest (.response f.session f.seq .done [])).state = .active := hst
    rw [hact]
    rfl
  · rw [State.clearTables_port, responded_port_ne _ _ _ _ hu, beq_false_of_ne hu, PortLink.cleared]
    cases (s.port u).state <;> rfl

/-- Settles O38. -/
theorem readStationAndReadDeviceShowTheStations : Obligations.ReadStationAndReadDeviceShowTheStations := by
  intro p s f rest n u
  refine ⟨fun h hu he hperm => ?_, fun h => ?_⟩
  · refine congrArg Host.Outcome.next (Request.take_worked (a := n.toNat) h rfl rfl (by decide) rfl
      (.inr he) (permitSelfOr_of hu hperm) (decide_eq_true (by omega)) rfl ?_)
    show withStation _ n.toNat _ = _
    rw [withStation_of hu, State.readStation, StationState.code_eq, flagByte_eq, flagByte_eq]
    rfl
  · refine congrArg Host.Outcome.next (Request.take_worked (a := ()) h rfl rfl (by decide) rfl (.inl rfl) rfl rfl rfl ?_)
    show State.readDevice _ p = _
    have hsweep : decide (s.sweep ≠ none) = s.sweep.isSome := by cases s.sweep <;> rfl
    simp only [StationState.code_eq, flagByte_eq, State.holders_eq, hsweep]
    rfl

/-- Settles O39. -/
theorem readPortAndReadSweepShowTheirUnits : Obligations.ReadPortAndReadSweepShowTheirUnits := by
  intro p s f rest n u he
  refine ⟨fun h hu hperm => ?_, fun h => ?_⟩
  · refine congrArg Host.Outcome.next (Request.take_worked (a := n.toNat) h rfl rfl (by decide) rfl
      (.inr he) (permitSelfOr_of hu hperm) (decide_eq_true (by omega)) rfl ?_)
    show withStation _ n.toNat _ = _
    rw [withStation_of hu, State.readPort, State.port_popped, PortState.code_eq, fenceCauseCode_eq]
    refine congrArg (fun l => Reply.mk .done l _) ?_
    show _ ++ State.windowFields s _ = _
    rw [State.windowFields_eq]
    dsimp only
    cases hx : (s.port u).session with
    | none => rfl
    | some x =>
      simp only [PortLink.sessionFields, apply_ite List.length] <;> rfl
  · refine congrArg Host.Outcome.next (Request.take_worked (a := ()) h rfl rfl (by decide) rfl (.inr he) rfl rfl rfl ?_)
    show State.readSweep _ = _
    rw [State.readSweep]
    refine congrArg (fun l => Reply.mk .done l _) ?_
    show _ ++ bytes8 s.lastTicket ++ outcomeBytes s.lastCompleted = _
    rw [show (s.popped p rest).sweep = s.sweep from rfl]
    simp only [SweepSubject.bytes_eq, Cursor.bytes_eq]
    cases s.sweep <;> cases s.lastCompleted <;> simp [outcomeBytes, Sweep.fields]

end Sys2Proof.Proofs
end

section
/-! PROOFS. Every request of the catalogue: its code, its parameters, its permission class, its ranges, and the refusals of
its owning rule (section 10.5, R182, R183). -/

namespace Sys2Proof.Machine

open Sys2Proof.Claims (IsFlag EncodingsDefined manageCodes requests)

/-! ### Replies -/

/-- A reply either carries the request out or changes nothing (R183). -/
def Reply.proper (s : State) (y : Reply) : Prop := y.status.isSuccess = true ∨ y = Reply.refuse s y.status

theorem Reply.proper_refuse (s : State) (status : Status) : (Reply.refuse s status).proper s := .inr rfl

theorem Reply.proper_done (s t : State) (result : List Byte) : (Reply.mk .done result t).proper s := .inl rfl

theorem Reply.proper_accepted (s t : State) (result : List Byte) : (Reply.mk .accepted result t).proper s := .inl rfl

theorem Reply.proper_ite {s : State} {c : Prop} [Decidable c] {x y : Reply} (hx : x.proper s) (hy : y.proper s) :
    (if c then x else y).proper s := by
  split
  · exact hx
  · exact hy

theorem withStation_proper {s : State} (n : Nat) {work : StationId → Reply} (h : ∀ u, (work u).proper s) :
    (withStation s n work).proper s := by
  unfold withStation
  split
  · exact Reply.proper_refuse ..
  · exact h _

/-! ### The owning rules are proper -/

section

variable (s : State) (t : StationId)

theorem State.issueGrant_proper (a : IssueGrantParams) : (s.issueGrant t a).proper s := by
  unfold State.issueGrant
  split
  · exact Reply.proper_refuse ..
  · exact Reply.proper_done ..

theorem State.dropGrant_proper (n : Nat) : (s.dropGrant t n).proper s := by
  unfold State.dropGrant
  split
  · exact Reply.proper_refuse ..
  · split
    · exact Reply.proper_refuse ..
    · exact Reply.proper_done ..

theorem State.installInto_proper (a : InstallGrantParams) : (s.installInto t a).proper s := by
  unfold State.installInto
  split
  · exact Reply.proper_refuse ..
  · split
    · exact Reply.proper_refuse ..
    · repeat' apply Reply.proper_ite
      all_goals first | exact Reply.proper_refuse .. | exact Reply.proper_done ..

theorem State.readFamily_proper (f : Nat) : (s.readFamily t f).proper s := by
  unfold State.readFamily
  split
  · exact Reply.proper_refuse ..
  · exact Reply.proper_done ..

theorem State.openQueue_proper (a : Nat × Nat × Nat) : (s.openQueue t a).proper s := by
  unfold State.openQueue
  split
  · exact Reply.proper_refuse ..
  · exact Reply.proper_ite (Reply.proper_refuse ..) (Reply.proper_ite (Reply.proper_refuse ..) (Reply.proper_done ..))

theorem State.changeSeal_proper (q : Nat) (x y : QueueState) : (s.changeSeal t q x y).proper s := by
  unfold State.changeSeal
  refine Reply.proper_ite (Reply.proper_refuse ..) ?_
  split
  · exact Reply.proper_refuse ..
  · exact Reply.proper_ite (Reply.proper_done ..) (Reply.proper_refuse ..)

theorem State.setDepth_proper (a : Nat × Nat) : (s.setDepth t a).proper s := by
  unfold State.setDepth
  refine Reply.proper_ite (Reply.proper_refuse ..) ?_
  split
  · exact Reply.proper_refuse ..
  · exact Reply.proper_ite (Reply.proper_refuse ..) (Reply.proper_ite (Reply.proper_refuse ..) (Reply.proper_done ..))

theorem State.setBand_proper (a : Nat × Nat) : (s.setBand t a).proper s := by
  unfold State.setBand
  split
  · exact Reply.proper_refuse ..
  · refine Reply.proper_ite (Reply.proper_refuse ..) ?_
    split
    · exact Reply.proper_refuse ..
    · exact Reply.proper_ite (Reply.proper_refuse ..) (Reply.proper_done ..)

theorem State.revokeFamily_proper (f : Nat) : (s.revokeFamily t f).proper s := by
  unfold State.revokeFamily
  split
  · exact Reply.proper_refuse ..
  · exact Reply.proper_ite (Reply.proper_refuse ..) (Reply.proper_ite (Reply.proper_refuse ..) (Reply.proper_accepted ..))

theorem State.purgeQueue_proper (r : StationId) (q : Nat) : (s.purgeQueue r t q).proper s := by
  unfold State.purgeQueue
  refine Reply.proper_ite (Reply.proper_refuse ..) ?_
  split
  · exact Reply.proper_refuse ..
  · exact Reply.proper_ite (Reply.proper_refuse ..) (Reply.proper_ite (Reply.proper_refuse ..) (Reply.proper_accepted ..))

theorem State.evictStation_proper (r : StationId) : (s.evictStation r t).proper s :=
  Reply.proper_ite (Reply.proper_refuse ..) (Reply.proper_ite (Reply.proper_refuse ..) (Reply.proper_accepted ..))

theorem State.releasePort_proper : (s.releasePort t).proper s :=
  Reply.proper_ite (Reply.proper_done ..) (Reply.proper_refuse ..)

theorem State.enableStation_proper (a : EnableParams) : (s.enableStation t a).proper s :=
  Reply.proper_ite (Reply.proper_done ..) (Reply.proper_refuse ..)

theorem State.setLimits_proper (a : LimitsParams) : (s.setLimits t a).proper s :=
  Reply.proper_ite (Reply.proper_refuse ..) (Reply.proper_ite (Reply.proper_refuse ..) (Reply.proper_done ..))

theorem State.setManage_proper (b : Bool) : (s.setManage t b).proper s :=
  Reply.proper_ite (Reply.proper_refuse ..) (Reply.proper_ite (Reply.proper_refuse ..) (Reply.proper_done ..))

end

/-! ### Fields with an undefined encoding (R199) -/

theorem readRights_isSome (r : Byte) : (readRights r).isSome = true ↔ r.toNat < 16 := by
  unfold readRights
  split <;> simp_all

theorem readFlag_isSome (b : Byte) : (readFlag b).isSome = true ↔ IsFlag b := by
  refine ⟨fun h => not_not.1 fun k => ?_, fun h => by rw [readFlag_of h]; rfl⟩
  rw [readFlag_eq_none k] at h
  exact nomatch h

theorem readBudget_isSome (b2 b1 b0 : Byte) : (readBudget b2 b1 b0).isSome = true ↔ IsFlag b2 := by
  refine ⟨fun h => not_not.1 fun k => ?_, fun h => by rw [readBudget_of h]; rfl⟩
  obtain ⟨h0, h1⟩ := not_or.1 k
  rw [readBudget, if_neg h0, if_neg h1] at h
  exact nomatch h

theorem readIssueGrant_isSome (q r b2 b1 b0 t1 t0 fl n1 n0 : Byte) :
    (readIssueGrant [q, r, b2, b1, b0, t1, t0, fl, n1, n0]).isSome = true ↔ r.toNat < 16 ∧ IsFlag b2 ∧ IsFlag fl := by
  rw [← readRights_isSome, ← readBudget_isSome b2 b1 b0, ← readFlag_isSome]
  unfold readIssueGrant
  cases hr : readRights r <;> cases hb : readBudget b2 b1 b0 <;> cases hf : readFlag fl <;> simp [hr, hb, hf]

theorem readInstallGrant_isSome (t f1 f0 r b2 b1 b0 n1 n0 : Byte) :
    (readInstallGrant [t, f1, f0, r, b2, b1, b0, n1, n0]).isSome = true ↔ r.toNat < 16 ∧ IsFlag b2 := by
  rw [← readRights_isSome, ← readBudget_isSome b2 b1 b0]
  unfold readInstallGrant
  cases hr : readRights r <;> cases hb : readBudget b2 b1 b0 <;> simp [hr, hb]

theorem readInstallGrant_station {t f1 f0 r b2 b1 b0 n1 n0 : Byte} {a : InstallGrantParams}
    (h : readInstallGrant [t, f1, f0, r, b2, b1, b0, n1, n0] = some a) : a.station = t.toNat := by
  unfold readInstallGrant at h
  cases hr : readRights r <;> cases hb : readBudget b2 b1 b0 <;> simp only [hr, hb] at h <;>
    cases h
  rfl

/-! ### The catalogue -/

/-- The codes of the requests of class SELF, with MANAGE for others, that name a station or a port (R182). -/
def namedCodes : List Nat := [0x13, 0x24, 0x39, 0x41, 0x4B]

/-- The codes of the requests of the issuer or MANAGE (R30, R129). -/
def issuerCodes : List Nat := [0x14, 0x38]

/-- A request of class MANAGE; the number above 7 of the station it names is out of range (R182). -/
def Request.managed {α : Type} (r : Request α) (e : Nat × Nat × (PortId → Instr)) : Prop :=
  (∀ s t a, r.permitted s t a = true → s.holdsManage t = true) ∧
  (e.1 ≠ 0x4F → ∀ n params a, (n :: params).length = e.2.1 → r.read (n :: params) = some a → 7 < n.toNat →
    (∀ s t, s.holdsManage t = true → r.permitted s t a = true) ∧ r.inRange a = false)

/-- A request that names a station, for itself or with MANAGE (R182). -/
def Request.named {α : Type} (r : Request α) (e : Nat × Nat × (PortId → Instr)) : Prop :=
  ∀ n params a, (n :: params).length = e.2.1 → r.read (n :: params) = some a →
    (∀ s t, r.permitted s t a = permitSelfOr s t n.toNat) ∧ (7 < n.toNat → r.inRange a = false)

/-- A request for a family, of its issuer or with MANAGE (R30). -/
def Request.ofIssuer {α : Type} (r : Request α) : Prop :=
  ∀ n1 n0, ∃ a, r.read [n1, n0] = some a ∧ (∀ s t, r.permitted s t a = permitIssuer s t (number16 n1 n0)) ∧
    (number16 n1 n0 = 0 ∨ 1023 < number16 n1 n0 → r.inRange a = false)

/-- The permission class of an entry, by its code (R182). -/
inductive Request.Classed {α : Type} (r : Request α) (e : Nat × Nat × (PortId → Instr)) : Prop where
  | free (h : Decidable.decide (e.1 ∉ manageCodes ∧ e.1 ∉ namedCodes ∧ e.1 ∉ issuerCodes) = true)
  | managed (h : Decidable.decide (e.1 ∉ namedCodes ∧ e.1 ∉ issuerCodes) = true) (hr : r.managed e)
  | named (h : Decidable.decide (e.1 ∉ manageCodes ∧ e.1 ∉ issuerCodes) = true) (hr : r.named e)
  | ofIssuer (h : Decidable.decide (e.1 ∉ manageCodes ∧ e.1 ∉ namedCodes) = true) (hr : r.ofIssuer)

/-- Entry e of the catalogue is request r: its command takes r, and r has the code, the parameters, the permission class
and the refusals that chapter 10 lists for it (section 10.5, R182, R183). -/
structure Request.Serves {α : Type} (r : Request α) (e : Nat × Nat × (PortId → Instr)) : Prop where
  code : e.1 = r.code
  length : e.2.1 = r.length
  exec : ∀ p s, exec (e.2.2 p) s = .next (r.take p s)
  read : ∀ params : List Byte, params.length = e.2.1 → ((r.read params).isSome = true ↔ EncodingsDefined e.1 params)
  anyStation : r.anyStation = true → e.1 = 0x4C
  classed : r.Classed e
  proper : ∀ s t a, (r.work s t a).proper s
  finish : ∀ s p, ((r.finish s p).port p).answers = (s.port p).answers

section

variable {α : Type} {r : Request α} {e : Nat × Nat × (PortId → Instr)} (h : r.Serves e)
include h

theorem Request.Serves.managed (he : e.1 ∈ manageCodes) : r.managed e := by
  rcases h.classed with k | ⟨-, hr⟩ | ⟨k, -⟩ | ⟨k, -⟩
  · exact absurd he (of_decide_eq_true k).1
  · exact hr
  · exact absurd he (of_decide_eq_true k).1
  · exact absurd he (of_decide_eq_true k).1

theorem Request.Serves.named (he : e.1 ∈ namedCodes) : r.named e := by
  rcases h.classed with k | ⟨k, -⟩ | ⟨-, hr⟩ | ⟨k, -⟩
  · exact absurd he (of_decide_eq_true k).2.1
  · exact absurd he (of_decide_eq_true k).1
  · exact hr
  · exact absurd he (of_decide_eq_true k).2

theorem Request.Serves.ofIssuer (he : e.1 ∈ issuerCodes) : r.ofIssuer := by
  rcases h.classed with k | ⟨k, -⟩ | ⟨k, -⟩ | ⟨-, hr⟩
  · exact absurd he (of_decide_eq_true k).2.2
  · exact absurd he (of_decide_eq_true k).2
  · exact absurd he (of_decide_eq_true k).2
  · exact hr

end

/-! ### Chapters 1, 2 and 4 -/

theorem issueGrantRequest_serves : issueGrantRequest.Serves (0x10, 10, .issueGrant) where
  code := rfl
  length := rfl
  exec _ _ := rfl
  read
    | [q, r, b2, b1, b0, t1, t0, fl, n1, n0], _ => readIssueGrant_isSome q r b2 b1 b0 t1 t0 fl n1 n0
  classed := .free rfl
  anyStation := nofun
  proper s t a := s.issueGrant_proper t a
  finish _ _ := rfl

theorem dropGrantRequest_serves : dropGrantRequest.Serves (0x11, 2, .dropGrant) where
  code := rfl
  length := rfl
  exec _ _ := rfl
  read
    | [_, _], _ => iff_of_true rfl trivial
  classed := .free rfl
  anyStation := nofun
  proper s t a := s.dropGrant_proper t a
  finish _ _ := rfl

theorem installGrantRequest_serves : installGrantRequest.Serves (0x12, 9, .installGrant) where
  code := rfl
  length := rfl
  exec _ _ := rfl
  read
    | [t, f1, f0, r, b2, b1, b0, n1, n0], _ => readInstallGrant_isSome t f1 f0 r b2 b1 b0 n1 n0
  classed := .managed rfl ⟨fun _ _ _ h => h, fun _ n => fun
    | [f1, f0, r, b2, b1, b0, n1, n0], a, _, hread, hn => by
      refine ⟨fun _ _ h => h, ?_⟩
      simp [installGrantRequest, readInstallGrant_station hread, Nat.not_le.2 hn]⟩
  anyStation := nofun
  proper s _ _ := withStation_proper _ (fun u => s.installInto_proper u _)
  finish _ _ := rfl

/-- The first number of a request that names a station, above 7, is out of range. -/
theorem decide_le_seven_false {n : Nat} (h : 7 < n) : decide (n ≤ 7) = false := decide_eq_false (Nat.not_le.2 h)

theorem decide_family_false {n : Nat} (h : n = 0 ∨ 1023 < n) : (decide (1 ≤ n) && decide (n ≤ Config.familyCapacity)) = false := by
  rw [Bool.and_eq_false_iff, decide_eq_false_iff_not, decide_eq_false_iff_not]
  exact h.imp (by omega) (fun k => Nat.not_le.2 k)

theorem readGrantRequest_serves : readGrantRequest.Serves (0x13, 3, .readGrant) where
  code := rfl
  length := rfl
  exec _ _ := rfl
  read
    | [_, _, _], _ => iff_of_true rfl trivial
  classed := .named rfl fun n => fun
    | [n1, n0], a, _, hread => by
      cases hread
      exact ⟨fun _ _ => rfl, fun hn => by simp [readGrantRequest, Nat.not_le.2 hn]⟩
  anyStation := nofun
  proper s _ _ := withStation_proper _ (fun u => Reply.proper_done ..)
  finish _ _ := rfl

theorem readFamilyRequest_serves : readFamilyRequest.Serves (0x14, 2, .readFamily) where
  code := rfl
  length := rfl
  exec _ _ := rfl
  read
    | [_, _], _ => iff_of_true rfl trivial
  classed := .ofIssuer rfl fun _ _ => ⟨_, rfl, fun _ _ => rfl, decide_family_false⟩
  anyStation := nofun
  proper s t a := s.readFamily_proper t a
  finish _ _ := rfl

theorem openQueueRequest_serves : openQueueRequest.Serves (0x20, 3, .openQueue) where
  code := rfl
  length := rfl
  exec _ _ := rfl
  read
    | [_, _, _], _ => iff_of_true rfl trivial
  classed := .free rfl
  anyStation := nofun
  proper s t a := s.openQueue_proper t a
  finish _ _ := rfl

theorem sealQueueRequest_serves : sealQueueRequest.Serves (0x21, 1, .sealQueue) where
  code := rfl
  length := rfl
  exec _ _ := rfl
  read
    | [_], _ => iff_of_true rfl trivial
  classed := .free rfl
  anyStation := nofun
  proper s t _ := s.changeSeal_proper t _ _ _
  finish _ _ := rfl

theorem unsealQueueRequest_serves : unsealQueueRequest.Serves (0x22, 1, .unsealQueue) where
  code := rfl
  length := rfl
  exec _ _ := rfl
  read
    | [_], _ => iff_of_true rfl trivial
  classed := .free rfl
  anyStation := nofun
  proper s t _ := s.changeSeal_proper t _ _ _
  finish _ _ := rfl

theorem setDepthRequest_serves : setDepthRequest.Serves (0x23, 2, .setDepth) where
  code := rfl
  length := rfl
  exec _ _ := rfl
  read
    | [_, _], _ => iff_of_true rfl trivial
  classed := .free rfl
  anyStation := nofun
  proper s t a := s.setDepth_proper t a
  finish _ _ := rfl

theorem readQueueRequest_serves : readQueueRequest.Serves (0x24, 2, .readQueue) where
  code := rfl
  length := rfl
  exec _ _ := rfl
  read
    | [_, _], _ => iff_of_true rfl trivial
  classed := .named rfl fun n => fun
    | [q], a, _, hread => by
      cases hread
      exact ⟨fun _ _ => rfl, fun hn => by simp [readQueueRequest, Nat.not_le.2 hn]⟩
  anyStation := nofun
  proper s _ _ := withStation_proper _ (fun u => Reply.proper_done ..)
  finish _ _ := rfl

theorem readPoolRequest_serves : readPoolRequest.Serves (0x25, 0, .readPool) where
  code := rfl
  length := rfl
  exec _ _ := rfl
  read
    | [], _ => iff_of_true rfl trivial
  classed := .free rfl
  anyStation := nofun
  proper _ _ _ := Reply.proper_done ..
  finish _ _ := rfl

theorem setBandRequest_serves : setBandRequest.Serves (0x28, 2, .setBand) where
  code := rfl
  length := rfl
  exec _ _ := rfl
  read
    | [_, _], _ => iff_of_true rfl trivial
  classed := .free rfl
  anyStation := nofun
  proper s t a := s.setBand_proper t a
  finish _ _ := rfl

theorem setQuantaRequest_serves : setQuantaRequest.Serves (0x29, 3, .setQuanta) where
  code := rfl
  length := rfl
  exec _ _ := rfl
  read
    | [_, _, _], _ => iff_of_true rfl trivial
  classed := .free rfl
  anyStation := nofun
  proper _ _ _ := Reply.proper_done ..
  finish _ _ := rfl

/-! ### Chapters 5, 6, 8 and 9 -/

theorem setDeliveryTimingRequest_serves : setDeliveryTimingRequest.Serves (0x30, 3, .setDeliveryTiming) where
  code := rfl
  length := rfl
  exec _ _ := rfl
  read
    | [_, _, _], _ => iff_of_true rfl trivial
  classed := .managed rfl ⟨fun _ _ _ h => h, fun _ n => fun
    | [_, _], a, _, hread, hn => by
      cases hread
      exact ⟨fun _ _ h => h, by simp [setDeliveryTimingRequest, Nat.not_le.2 hn]⟩⟩
  anyStation := nofun
  proper _ _ _ := withStation_proper _ (fun _ => Reply.proper_done ..)
  finish _ _ := rfl

theorem revokeFamilyRequest_serves : revokeFamilyRequest.Serves (0x38, 2, .revokeFamily) where
  code := rfl
  length := rfl
  exec _ _ := rfl
  read
    | [_, _], _ => iff_of_true rfl trivial
  classed := .ofIssuer rfl fun _ _ => ⟨_, rfl, fun _ _ => rfl, decide_family_false⟩
  anyStation := nofun
  proper s t a := s.revokeFamily_proper t a
  finish _ _ := rfl

theorem purgeQueueRequest_serves : purgeQueueRequest.Serves (0x39, 2, .purgeQueue) where
  code := rfl
  length := rfl
  exec _ _ := rfl
  read
    | [_, _], _ => iff_of_true rfl trivial
  classed := .named rfl fun n => fun
    | [q], a, _, hread => by
      cases hread
      exact ⟨fun _ _ => rfl, fun hn => by simp [purgeQueueRequest, Nat.not_le.2 hn]⟩
  anyStation := nofun
  proper s r _ := withStation_proper _ (fun u => s.purgeQueue_proper u r _)
  finish _ _ := rfl

theorem evictStationRequest_serves : evictStationRequest.Serves (0x3A, 1, .evictStation) where
  code := rfl
  length := rfl
  exec _ _ := rfl
  read
    | [_], _ => iff_of_true rfl trivial
  classed := .managed rfl ⟨fun _ _ _ h => (Bool.and_eq_true_iff.1 h).1, fun _ n => fun
    | [], a, _, hread, hn => by
      cases hread
      refine ⟨fun _ t h => ?_, decide_le_seven_false hn⟩
      have hne : n.toNat ≠ t.val := by omega
      simp [evictStationRequest, h, hne]⟩
  anyStation := nofun
  proper s r _ := withStation_proper _ (fun u => s.evictStation_proper u r)
  finish _ _ := rfl

theorem readSweepRequest_serves : readSweepRequest.Serves (0x3B, 0, .readSweep) where
  code := rfl
  length := rfl
  exec _ _ := rfl
  read
    | [], _ => iff_of_true rfl trivial
  classed := .free rfl
  anyStation := nofun
  proper _ _ _ := Reply.proper_done ..
  finish _ _ := rfl

theorem releasePortRequest_serves : releasePortRequest.Serves (0x40, 1, .releasePort) where
  code := rfl
  length := rfl
  exec _ _ := rfl
  read
    | [_], _ => iff_of_true rfl trivial
  classed := .managed rfl ⟨fun _ _ _ h => h, fun _ n => fun
    | [], a, _, hread, hn => by
      cases hread
      exact ⟨fun _ _ h => h, decide_le_seven_false hn⟩⟩
  anyStation := nofun
  proper s _ _ := withStation_proper _ (fun u => s.releasePort_proper u)
  finish _ _ := rfl

theorem readPortRequest_serves : readPortRequest.Serves (0x41, 1, .readPort) where
  code := rfl
  length := rfl
  exec _ _ := rfl
  read
    | [_], _ => iff_of_true rfl trivial
  classed := .named rfl fun n => fun
    | [], a, _, hread => by
      cases hread
      exact ⟨fun _ _ => rfl, decide_le_seven_false⟩
  anyStation := nofun
  proper _ _ _ := withStation_proper _ (fun _ => Reply.proper_done ..)
  finish _ _ := rfl

theorem setPortLimitRequest_serves : setPortLimitRequest.Serves (0x42, 3, .setPortLimit) where
  code := rfl
  length := rfl
  exec _ _ := rfl
  read
    | [_, _, c], _ => by
      show ((readFlag c).map _).isSome = true ↔ _
      rw [Option.isSome_map]
      exact readFlag_isSome c
  classed := .managed rfl ⟨fun _ _ _ h => h, fun _ n => fun
    | [_, c], a, _, hread, hn => by
      obtain ⟨b, -, rfl⟩ := Option.map_eq_some_iff.1 hread
      exact ⟨fun _ _ h => h, by simp [setPortLimitRequest, Nat.not_le.2 hn]⟩⟩
  anyStation := nofun
  proper _ _ _ := withStation_proper _ (fun _ => Reply.proper_done ..)
  finish _ _ := rfl

theorem enableStationRequest_serves : enableStationRequest.Serves (0x48, 7, .enableStation) where
  code := rfl
  length := rfl
  exec _ _ := rfl
  read
    | [_, _, _, _, _, _, m], _ => by
      show ((readFlag m).map _).isSome = true ↔ _
      rw [Option.isSome_map]
      exact readFlag_isSome m
  classed := .managed rfl ⟨fun _ _ _ h => h, fun _ n => fun
    | [_, _, _, _, _, m], a, _, hread, hn => by
      obtain ⟨b, -, rfl⟩ := Option.map_eq_some_iff.1 hread
      exact ⟨fun _ _ h => h, by simp [enableStationRequest, LimitsParams.inRange, Nat.not_le.2 hn]⟩⟩
  anyStation := nofun
  proper s _ _ := withStation_proper _ (fun u => s.enableStation_proper u _)
  finish _ _ := rfl

theorem setLimitsRequest_serves : setLimitsRequest.Serves (0x49, 6, .setLimits) where
  code := rfl
  length := rfl
  exec _ _ := rfl
  read
    | [_, _, _, _, _, _], _ => iff_of_true rfl trivial
  classed := .managed rfl ⟨fun _ _ _ h => h, fun _ n => fun
    | [_, _, _, _, _], a, _, hread, hn => by
      cases hread
      exact ⟨fun _ _ h => h, by simp [setLimitsRequest, LimitsParams.inRange, Nat.not_le.2 hn]⟩⟩
  anyStation := nofun
  proper s _ _ := withStation_proper _ (fun u => s.setLimits_proper u _)
  finish _ _ := rfl

theorem setManageRequest_serves : setManageRequest.Serves (0x4A, 2, .setManage) where
  code := rfl
  length := rfl
  exec _ _ := rfl
  read
    | [_, m], _ => by
      show ((readFlag m).map _).isSome = true ↔ _
      rw [Option.isSome_map]
      exact readFlag_isSome m
  classed := .managed rfl ⟨fun _ _ _ h => h, fun _ n => fun
    | [m], a, _, hread, hn => by
      obtain ⟨b, -, rfl⟩ := Option.map_eq_some_iff.1 hread
      exact ⟨fun _ _ h => h, decide_le_seven_false hn⟩⟩
  anyStation := nofun
  proper s _ _ := withStation_proper _ (fun u => s.setManage_proper u _)
  finish _ _ := rfl

theorem readStationRequest_serves : readStationRequest.Serves (0x4B, 1, .readStation) where
  code := rfl
  length := rfl
  exec _ _ := rfl
  read
    | [_], _ => iff_of_true rfl trivial
  classed := .named rfl fun n => fun
    | [], a, _, hread => by
      cases hread
      exact ⟨fun _ _ => rfl, decide_le_seven_false⟩
  anyStation := nofun
  proper _ _ _ := withStation_proper _ (fun _ => Reply.proper_done ..)
  finish _ _ := rfl

theorem readDeviceRequest_serves : readDeviceRequest.Serves (0x4C, 0, .readDevice) where
  code := rfl
  length := rfl
  exec _ _ := rfl
  read
    | [], _ => iff_of_true rfl trivial
  classed := .free rfl
  anyStation _ := rfl
  proper _ _ _ := Reply.proper_done ..
  finish _ _ := rfl

theorem clearTablesRequest_serves : clearTablesRequest.Serves (0x4F, 0, .clearTables) where
  code := rfl
  length := rfl
  exec _ _ := rfl
  read
    | [], _ => iff_of_true rfl trivial
  classed := .managed rfl ⟨fun _ _ _ h => h, fun h => absurd rfl h⟩
  anyStation := nofun
  proper _ _ _ := Reply.proper_done ..
  finish s p := by
    show ((s.clearTables p).port p).answers = _
    rw [State.clearTables_port, beq_self_eq_true, PortLink.cleared]
    cases (s.port p).state <;> rfl

/-- Every entry of the catalogue is one of the requests of the model (section 10.5). -/
theorem requests_served : ∀ e ∈ requests, ∃ (α : Type) (r : Request α), r.Serves e := by
  unfold requests
  rw [List.forall_mem_append]
  constructor
  · simp only [List.forall_mem_cons]
    exact ⟨⟨_, _, issueGrantRequest_serves⟩, ⟨_, _, dropGrantRequest_serves⟩, ⟨_, _, installGrantRequest_serves⟩,
      ⟨_, _, readGrantRequest_serves⟩, ⟨_, _, readFamilyRequest_serves⟩, ⟨_, _, openQueueRequest_serves⟩,
      ⟨_, _, sealQueueRequest_serves⟩, ⟨_, _, unsealQueueRequest_serves⟩, ⟨_, _, setDepthRequest_serves⟩,
      ⟨_, _, readQueueRequest_serves⟩, ⟨_, _, readPoolRequest_serves⟩, ⟨_, _, setBandRequest_serves⟩,
      ⟨_, _, setQuantaRequest_serves⟩, nofun⟩
  · simp only [List.forall_mem_cons]
    exact ⟨⟨_, _, setDeliveryTimingRequest_serves⟩, ⟨_, _, revokeFamilyRequest_serves⟩,
      ⟨_, _, purgeQueueRequest_serves⟩, ⟨_, _, evictStationRequest_serves⟩, ⟨_, _, readSweepRequest_serves⟩,
      ⟨_, _, releasePortRequest_serves⟩, ⟨_, _, readPortRequest_serves⟩, ⟨_, _, setPortLimitRequest_serves⟩,
      ⟨_, _, enableStationRequest_serves⟩, ⟨_, _, setLimitsRequest_serves⟩, ⟨_, _, setManageRequest_serves⟩,
      ⟨_, _, readStationRequest_serves⟩, ⟨_, _, readDeviceRequest_serves⟩, ⟨_, _, clearTablesRequest_serves⟩, nofun⟩

end Sys2Proof.Machine
end

section
/-! PROOFS. Checks 1 to 5 of R181 for every request, and the statements O40 to O42. -/

namespace Sys2Proof.Machine

open Sys2Proof.Claims (Requested Offered EncodingsDefined Enabled Manager answered responded withPort manageCodes requests)

/-! ### Answers that refuse -/

section

variable {α : Type} {r : Request α} {s : State} {p : PortId} {f : IngressFrame} {rest : List IngressFrame}
  {code len : Byte} {params : List Byte} {a : α}

/-- An offered frame of this request, read, in the state in which the frame has left the queue (R181). -/
theorem Request.take_of_parameters (h : Offered s p .control f rest (code :: len :: params)) (hcode : code.toNat = r.code)
    (hread : r.parameters len.toNat params = some a) {reply : Reply}
    (hreply : r.decide (s.popped p rest) p a = reply) :
    r.take p s =
      if reply.status.isSuccess then
        r.finish (reply.state.produceAnswer p (.response f.session f.seq reply.status reply.result)) p
      else reply.state.produceAnswer p (.response f.session f.seq reply.status reply.result) := by
  rw [Request.take_of_offered h hcode, r.answer_read _ _ _ _ _ _ hread, hreply]

/-- A request that is refused gets its status, and nothing else changes (R183). -/
theorem Request.take_refused (h : Offered s p .control f rest (code :: len :: params)) (hcode : code.toNat = r.code)
    (hread : r.parameters len.toNat params = some a) {status : Status} (hst : status.isSuccess = false)
    (hreply : r.decide (s.popped p rest) p a = Reply.refuse (s.popped p rest) status) :
    r.take p s = responded s p f rest status [] := by
  rw [Request.take_of_parameters h hcode hread hreply, if_neg (by rw [Reply.refuse, hst]; exact nofun)]
  exact State.produceAnswer_popped ..

theorem Request.parameters_of {n : Nat} (hn : n = params.length) (hlen : params.length = r.length)
    (hread : r.read params = some a) : r.parameters n params = some a :=
  (if_pos ⟨hn, hn.trans hlen⟩).trans hread

theorem Request.parameters_none {n : Nat}
    (h : n ≠ params.length ∨ params.length ≠ r.length ∨ r.read params = none) : r.parameters n params = none := by
  unfold Request.parameters
  split
  · rename_i k
    rcases h with h | h | h
    · exact absurd k.1 h
    · exact absurd (k.1.symm.trans k.2) h
    · exact h
  · rfl

/-- The length byte of a well-formed request (R198). -/
theorem requested_length {params : List Byte} (h : params.length ≤ 10) :
    (BitVec.ofNat 8 params.length).toNat = params.length := by
  rw [BitVec.toNat_ofNat, Nat.mod_eq_of_lt (by omega)]

end

/-- A malformed CONTROL frame is answered and counted (R169, R181). -/
theorem State.answerMalformed_popped {s : State} {p : PortId} (f : IngressFrame) (rest : List IngressFrame)
    (hst : (s.port p).state = .active) (hl : (s.port p).protocolErrors + 1 ≠ (s.port p).protocolLimit) :
    (s.popped p rest).answerMalformed p f = withPort s p (Claims.malformedPort (s.port p) f rest) := by
  unfold State.answerMalformed
  rw [State.produceAnswer_popped]
  have hport : (answered s p rest (.response f.session f.seq .malformed [])).port p =
      Claims.answeredPort (s.port p) rest (.response f.session f.seq .malformed []) := Bank.get_set_self _ p _
  rw [State.protocolError_counted (by rw [hport]; exact hst) (by rw [hport]; exact hl), hport]
  unfold State.setPort withPort answered
  dsimp only
  rw [Bank.set_set]
  rfl

/-- After a protocol error a port has the answers it had, or none (R161, R169). -/
theorem State.protocolError_answers (s : State) (p : PortId) :
    ((s.protocolError p).port p).answers = (s.port p).answers ∨ ((s.protocolError p).port p).answers = [] := by
  by_cases h : (s.port p).state = .active
  · rw [State.port_of_setPorts (s.protocolError_ports p h), if_pos rfl, PortLink.afterProtocolError]
    split
    · exact .inr rfl
    · exact .inl rfl
  · rw [s.protocolError_of_not_active p h]
    exact .inl rfl

theorem catalogue_eq : catalogue = requests.map (fun e => e.1) := rfl

/-- The parameters of the catalogue are ten bytes or less (section 10.5). -/
theorem requests_length : ∀ e ∈ requests, e.2.1 ≤ 10 := by
  unfold requests
  simp

theorem requests_length_of_issuer : ∀ e ∈ requests, e.1 ∈ issuerCodes → e.2.1 = 2 := by
  unfold requests issuerCodes
  simp

theorem encodingsDefined_of_named {code : Nat} (h : code ∈ namedCodes) (params : List Byte) :
    EncodingsDefined code params := by
  simp only [namedCodes, List.mem_cons, List.not_mem_nil, or_false] at h
  rcases h with rfl | rfl | rfl | rfl | rfl <;> trivial

/-- The taking of a frame whose code is not in the catalogue (R181). -/
theorem State.takeUnknown_offered {s : State} {p : PortId} {f : IngressFrame} {rest : List IngressFrame}
    {code len : Byte} {params : List Byte} (h : Offered s p .control f rest (code :: len :: params))
    (hcode : ∀ e ∈ requests, e.1 ≠ code.toNat) :
    s.takeUnknown p =
      if len.toNat = params.length then responded s p f rest .unknownRequest []
      else (s.popped p rest).answerMalformed p f := by
  obtain ⟨hin, hkind, hbody, hroom⟩ := h
  have hhead : s.takeHeadFrame p .control = some (f, s.popped p rest) := by
    rw [State.takeHeadFrame_eq_some]
    exact ⟨rest, hin, hkind, decide_eq_true (p := (s.port p).answers.length < Config.answerCapacity) hroom, rfl⟩
  have hcat : catalogue.contains code.toNat = false := by
    rw [catalogue_eq, List.contains_eq_mem, decide_eq_false_iff_not]
    exact fun k => by
      obtain ⟨e, he, hc⟩ := List.mem_map.1 k
      exact hcode e he hc
  unfold State.takeUnknown
  simp only [hhead, hbody]
  rw [if_neg (by rw [hcat]; exact nofun), State.produceAnswer_popped]
  rfl

end Sys2Proof.Machine

namespace Sys2Proof.Proofs

open Sys2Proof.Machine
open Sys2Proof.Claims (Requested Offered EncodingsDefined Enabled Manager answered responded withPort manageCodes requests)

/-- Settles O40. -/
theorem malformedUnknownAndNotEnabledRequests : Obligations.MalformedUnknownAndNotEnabledRequests := by
  intro p s f rest code len params h hst hl
  refine ⟨fun hcode => ⟨fun hlen => ?_, fun hlen => ?_⟩, fun e he hcode => ?_⟩
  · exact congrArg Host.Outcome.next ((State.takeUnknown_offered h hcode).trans (if_pos hlen))
  · refine congrArg Host.Outcome.next ((State.takeUnknown_offered h hcode).trans ((if_neg hlen).trans ?_))
    exact State.answerMalformed_popped f rest hst hl
  · obtain ⟨α, r, hr⟩ := requests_served e he
    have hrcode : code.toNat = r.code := hcode.symm.trans hr.code
    rw [hr.exec]
    refine ⟨fun hbad => congrArg Host.Outcome.next ?_, fun hlen hlen' henc hen h4c => congrArg Host.Outcome.next ?_⟩
    · rw [Request.take_of_offered h hrcode, r.answer_malformed _ _ _ _ _ (Request.parameters_none ?_)]
      · exact State.answerMalformed_popped f rest hst hl
      · rw [← hr.length]
        refine hbad.imp_right fun k => (em (params.length = e.2.1)).symm.imp_right fun hlen => ?_
        refine Option.not_isSome_iff_eq_none.1 fun hsome => ?_
        exact (k.resolve_left (fun k => k hlen)) ((hr.read params hlen).1 hsome)
    · obtain ⟨a, ha⟩ := Option.isSome_iff_exists.1 ((hr.read params hlen').2 henc)
      have hany : r.anyStation = false := by
        rw [← Bool.not_eq_true]
        exact fun k => h4c (hr.anyStation k)
      have hdis : (s.popped p rest).isEnabled p = false := by
        rw [← Bool.not_eq_true]
        exact fun k => hen ((s.isEnabled_iff p).1 k)
      exact Request.take_refused h hrcode (Request.parameters_of hlen (hlen'.trans hr.length) ha) rfl
        (r.decide_notEnabled _ p a hany hdis)

/-- A request of the catalogue that the checks refuse is answered with their status (R181). -/
theorem request_refused {p : PortId} {s : State} {f : IngressFrame} {rest : List IngressFrame} {code : Byte}
    {params : List Byte} {e : Nat × Nat × (PortId → Instr)} {α : Type} {r : Request α} {a : α} {status : Status}
    (he : e ∈ requests) (hr : r.Serves e) (hcode : e.1 = code.toNat) (hlen : params.length = e.2.1)
    (h : Requested s p f rest code params) (hread : r.read params = some a) (hst : status.isSuccess = false)
    (hreply : r.decide (s.popped p rest) p a = Reply.refuse (s.popped p rest) status) :
    exec (e.2.2 p) s = .next (responded s p f rest status []) := by
  rw [hr.exec]
  exact congrArg Host.Outcome.next (Request.take_refused h (hcode.symm.trans hr.code)
    (Request.parameters_of (requested_length (by rw [hlen]; exact requests_length e he)) (hlen.trans hr.length) hread)
    hst hreply)

/-- Settles O41. -/
theorem permissionComesBeforeRange : Obligations.PermissionComesBeforeRange := by
  intro p s f rest code n params hen
  have henabled : (s.popped p rest).isEnabled p = true := (s.isEnabled_iff p).2 hen
  have hno : ¬ Manager s p → (s.popped p rest).holdsManage p = false := fun k =>
    Bool.not_eq_true _ ▸ fun hm => k ((s.holdsManage_iff p).1 hm)
  refine ⟨fun e he hcode hmanage hlen henc h hm => ?_, fun e he hcode hnamed hlen h => ?_,
    fun e he hcode hmanage h4f hlen henc h hn hm => ?_, fun h hn => ?_, fun n1 n0 e he hcode hissuer h => ?_⟩
  · obtain ⟨α, r, hr⟩ := requests_served e he
    obtain ⟨a, ha⟩ := Option.isSome_iff_exists.1 ((hr.read params hlen).2 henc)
    refine request_refused he hr hcode hlen h ha rfl (r.decide_notPermitted _ p a henabled ?_)
    rw [← Bool.not_eq_true]
    exact fun k => hm ((s.holdsManage_iff p).1 ((hr.managed hmanage).1 (s.popped p rest) p a k))
  · obtain ⟨α, r, hr⟩ := requests_served e he
    obtain ⟨a, ha⟩ := Option.isSome_iff_exists.1 ((hr.read _ hlen).2 (encodingsDefined_of_named hnamed _))
    obtain ⟨hperm, hrange⟩ := hr.named hnamed n params a hlen ha
    refine ⟨fun hn hm => ?_, fun hn hm => ?_⟩
    · refine request_refused he hr hcode hlen h ha rfl (r.decide_notPermitted _ p a henabled ?_)
      rw [hperm, permitSelfOr, hno hm, beq_false_of_ne hn]
      rfl
    · refine request_refused he hr hcode hlen h ha rfl (r.decide_badValue _ p a henabled ?_ (hrange hn))
      rw [hperm, permitSelfOr, State.holdsManage_popped hm, Bool.or_true]
  · obtain ⟨α, r, hr⟩ := requests_served e he
    obtain ⟨a, ha⟩ := Option.isSome_iff_exists.1 ((hr.read _ hlen).2 henc)
    obtain ⟨hperm, hrange⟩ := (hr.managed hmanage).2 h4f n params a hlen ha hn
    exact request_refused he hr hcode hlen h ha rfl
      (r.decide_badValue _ p a henabled (hperm _ p (State.holdsManage_popped hm)) hrange)
  · refine request_refused (e := (0x3A, 1, .evictStation)) (by simp [requests]) evictStationRequest_serves rfl rfl h rfl rfl
      (evictStationRequest.decide_notPermitted _ p n.toNat henabled ?_)
    simp [evictStationRequest, hn]
  · obtain ⟨α, r, hr⟩ := requests_served e he
    obtain ⟨a, ha, hperm, hrange⟩ := hr.ofIssuer hissuer n1 n0
    have hlen : [n1, n0].length = e.2.1 := (requests_length_of_issuer e he hissuer).symm
    refine ⟨fun hm hfam => ?_, fun hm hbad => ?_⟩
    · refine request_refused he hr hcode hlen h ha rfl (r.decide_notPermitted _ p a henabled ?_)
      rw [hperm, permitIssuer, hno hm, Bool.false_or, ← Bool.not_eq_true, Option.any_eq_true]
      rintro ⟨y, hy, k⟩
      rw [Bool.and_eq_true, beq_iff_eq, beq_iff_eq] at k
      exact hfam y hy k
    · refine request_refused he hr hcode hlen h ha rfl (r.decide_badValue _ p a henabled ?_ (hrange hbad))
      rw [hperm, permitIssuer, State.holdsManage_popped hm, Bool.true_or]

/-- Settles O42. -/
theorem refusedRequestsChangeNothing : Obligations.RefusedRequestsChangeNothing := by
  intro p s t f rest code len params status result h e he hcode hexec hans hd ha hm
  obtain ⟨α, r, hr⟩ := requests_served e he
  rw [hr.exec] at hexec
  have hrcode : code.toNat = r.code := hcode.symm.trans hr.code
  have ht : r.take p s = t := Host.Outcome.next.inj hexec
  cases hread : r.parameters len.toNat params with
  | none =>
    exfalso
    rw [Request.take_of_offered h hrcode, r.answer_malformed _ _ _ _ _ hread, State.answerMalformed,
      State.produceAnswer_popped] at ht
    have hanswers : ((answered s p rest (.response f.session f.seq .malformed [])).port p).answers =
        (s.port p).answers ++ [.response f.session f.seq .malformed []] := by
      rw [show (answered s p rest _).port p = _ from Bank.get_set_self _ p _]
      rfl
    rcases (answered s p rest (.response f.session f.seq .malformed [])).protocolError_answers p with k | k
    · rw [ht, hans, hanswers] at k
      injection (List.append_right_inj _).1 k with k
      injection k with _ _ k
      exact hm k
    · rw [ht, hans] at k
      simp at k
  | some a =>
    have hreply : (r.decide (s.popped p rest) p a).proper (s.popped p rest) := by
      rcases r.decide_cases (s.popped p rest) p a with ⟨st, -, -, k⟩ | ⟨-, -, -, k⟩
      · rw [k]
        exact Reply.proper_refuse ..
      · rw [k]
        exact hr.proper ..
    rw [Request.take_of_parameters h hrcode hread rfl] at ht
    generalize r.decide (s.popped p rest) p a = reply at hreply ht
    have hanswers : (t.port p).answers =
        (reply.state.port p).answers ++ [.response f.session f.seq reply.status reply.result] := by
      have hproduced : ((reply.state.produceAnswer p (.response f.session f.seq reply.status reply.result)).port p).answers =
          (reply.state.port p).answers ++ [.response f.session f.seq reply.status reply.result] := by
        rw [State.produceAnswer, State.port_setPort_self]
      rw [← ht]
      split
      · rw [hr.finish, hproduced]
      · exact hproduced
    rw [hanswers] at hans
    obtain ⟨-, hlast⟩ := List.append_inj' hans rfl
    injection hlast with hlast
    injection hlast with _ _ hstatus hresult
    subst hstatus hresult
    have hfail : reply.status.isSuccess ≠ true := fun k => by
      cases hst : reply.status <;> simp_all [Status.isSuccess]
    obtain hsuccess | hrefuse := hreply
    · exact absurd hsuccess hfail
    · rw [if_neg hfail] at ht
      rw [hrefuse] at ht ⊢
      exact ⟨rfl, ht.symm.trans (State.produceAnswer_popped ..)⟩

end Sys2Proof.Proofs
end

section
/-! PROOFS. The acceptance of the three sweep requests (R124 to R135), and the statements O43 to O45. -/

namespace Sys2Proof.Machine

open Sys2Proof.Claims (Requested Enabled Manager answered responded withQueue withScheduler revokedWhere openWhere)

/-! ### Families made REVOKING (R14) -/

theorem State.countOpen_eq (s : State) (test : Family → Bool) : s.countOpen test = openWhere s test :=
  List.countP_congr (fun e _ => by simp)

theorem State.revokeFamilies_eq (s : State) (test : Family → Bool) :
    s.revokeFamilies test = { s with families := revokedWhere s test } := by
  unfold State.revokeFamilies revokedWhere Table.mapRecords
  simp

theorem nextOf255_eq (n : Nat) : nextOf255 n = if n < 255 then n + 1 else 1 := rfl

/-! ### The blocks of an EVICTING station -/

theorem State.dropQueue_blocks (s : State) (t : StationId) (q : Nat) :
    (s.dropQueue t q).queues = Bank.set s.queues t (Table.erase (Bank.get s.queues t) q) ∧
      (s.dropQueue t q).schedulers = s.schedulers ∧ (s.dropQueue t q).stations = s.stations := by
  unfold State.dropQueue
  dsimp only
  split <;> exact ⟨rfl, rfl, rfl⟩

/-- Station u with record x and scheduler sch, all its queues PURGING with the mark clear, their lists as given: what a
session end leaves of an EVICTING station (R115, R135). -/
def State.evictable (u : StationId) (x : Station) (sch : Scheduler) (lists : Nat → Option (List ListEntry)) (s : State) :
    Prop :=
  s.station u = x ∧ s.scheduler u = sch ∧
    ∀ q, (s.queue u q).map Queue.list = lists q ∧ ∀ y ∈ s.queue u q, y.state = .purging ∧ y.passComplete = false

section

variable {u : StationId} {x : Station} {sch : Scheduler} {lists : Nat → Option (List ListEntry)}

theorem State.evictable_of_eq {s t : State} (hs : s.evictable u x sch lists) (hst : t.station u = s.station u)
    (hsch : t.scheduler u = s.scheduler u) (hq : ∀ q, t.queue u q = s.queue u q) : t.evictable u x sch lists := by
  obtain ⟨h1, h2, h3⟩ := hs
  exact ⟨hst.trans h1, hsch.trans h2, fun q => by rw [hq]; exact h3 q⟩

/-- A queue record of station u that keeps its list, its state and its mark. -/
theorem State.evictable_of_setQueue {s : State} (hs : s.evictable u x sch lists) {t : StationId} {q : Nat} {y z : Queue}
    (hy : s.queue t q = some y) (hlist : z.list = y.list) (hst : z.state = y.state) (hpc : z.passComplete = y.passComplete)
    {a : State} (hsta : a.station u = s.station u) (hsch : a.scheduler u = s.scheduler u)
    (hq : a.queues = (s.setQueue t q z).queues) : a.evictable u x sch lists := by
  have hread : ∀ r, a.queue u r = (s.setQueue t q z).queue u r := fun r => by unfold State.queue; rw [hq]
  obtain ⟨h1, h2, h3⟩ := hs
  refine ⟨hsta.trans h1, hsch.trans h2, fun r => ?_⟩
  rw [hread, State.queue_setQueue]
  split
  · rename_i h
    obtain ⟨rfl, rfl⟩ := h
    obtain ⟨hl, hp⟩ := h3 r
    rw [hy] at hl hp
    obtain ⟨hp1, hp2⟩ := hp y rfl
    refine ⟨(congrArg some hlist).trans hl, fun w hw => ?_⟩
    obtain rfl := Option.some.inj hw
    exact ⟨hst.trans hp1, hpc.trans hp2⟩
  · exact h3 r

/-- Reports go to ENABLED stations, entries return to queues that are not PURGING: an EVICTING station sees neither. -/
theorem evictable_grantBlind (hx : x.state = .evicting) : GrantBlind (State.evictable u x sch lists) where
  grants s _ _ _ _ hs := State.evictable_of_eq hs rfl rfl (fun _ => rfl)
  records s _ _ _ _ _ hs := State.evictable_of_eq hs rfl rfl (fun _ => rfl)
  ports s _ hs := State.evictable_of_eq hs rfl rfl (fun _ => rfl)
  callReport s t c hs := by
    have hne : s.isEnabled t = true → u ≠ t := by
      rintro he rfl
      rw [State.isEnabled, hs.1, hx] at he
      exact nomatch he
    rcases s.callReport_cases t c with ⟨-, e⟩ | ⟨q, he, -, -, e⟩ | ⟨he, -, e⟩ <;> rw [e]
    · exact hs
    · rw [← Claims.withReport_eq]
      have hu := hne he
      refine State.evictable_of_eq hs (Bank.get_set_ne _ _ hu) ?_ (fun r => ?_)
      · show Bank.get (Claims.joinedIfEmpty s t 0 q) u = _
        unfold Claims.joinedIfEmpty
        split
        · exact Bank.get_set_ne _ _ hu
        · rfl
      · exact congrArg (Table.find · r) (Bank.get_set_ne _ _ hu)
    · exact State.evictable_of_eq hs (Bank.get_set_ne _ _ (hne he)) rfl (fun _ => rfl)
  releaseHeld := State.releaseHeld_keeps
    (fun _ _ _ _ _ _ hy hq hsch hst _ h1 _ h3 h4 hs => State.evictable_of_setQueue hs hy h3 h1 h4
      (by rw [State.station, hst]; rfl) (by rw [State.scheduler, hsch]; rfl) hq)
    (fun s t q hs => by
      rcases s.settleQueue_cases t q with e | ⟨y, hy, -, hpc, -, e⟩ <;> rw [e]
      · exact hs
      · have hu : u ≠ t := by
          rintro rfl
          have hclear := ((hs.2.2 q).2 y hy).2
          rw [hpc] at hclear
          exact nomatch hclear
        obtain ⟨hq, hsch, hst⟩ := s.dropQueue_blocks t q
        refine State.evictable_of_eq hs (by rw [State.station, hst]; rfl) (by rw [State.scheduler, hsch]; rfl) (fun r => ?_)
        rw [State.queue, hq, Bank.get_set_ne _ _ hu]
        rfl)
  returnEntry s t q y e k hy hst hs := by
    have hu : u ≠ t := by
      rintro rfl
      exact hst ((hs.2.2 q).2 y hy).1
    rw [← Claims.entryReturned_eq]
    refine State.evictable_of_eq hs ?_ ?_ (fun r => ?_)
    · rw [Claims.entryReturned_eq]
      exact s.returnEntry_station t q y e k u
    · show Bank.get (Claims.joinedIfEmpty s t q y) u = _
      unfold Claims.joinedIfEmpty
      split
      · exact Bank.get_set_ne _ _ hu
      · rfl
    · exact congrArg (Table.find · r) (Bank.get_set_ne _ _ hu)

end

/-! ### EVICT STATION (R134, R135) -/

/-- Station u EVICTING, its OPEN families REVOKING, its queues PURGING: steps 1 to 3 of R135. -/
def State.evictPrepared (s : State) (u : StationId) : State :=
  ((s.setStation u { s.station u with state := .evicting }).revokeFamilies (fun x => x.issuer == u)).purgeAllQueues u

theorem Station.generation_of_standing {x y : Station} (h : x.standing = y.standing) : x.generation = y.generation :=
  (congrArg Station.generation h : x.standing.generation = y.standing.generation)

/-- The session of an EVICTING station has ended: step 4 of R135. -/
def State.evictEnded (s : State) (u : StationId) : State :=
  if (s.port u).state = .active then
    (s.endSession u).setPort u { (s.endSession u).port u with state := .idle, linkReply := none }
  else s

/-- The deliveries that the end of the session frees (R135 step 4). -/
def State.evictFreed (s : State) (u : StationId) : List EntryRef :=
  if (s.port u).state = .active then (s.port u).window.outstanding else []

theorem State.evictStation_eq {s : State} {r u : StationId} (hu : Enabled s u) (hs : s.sweep = none) :
    s.evictStation r u =
      let e := ((s.evictPrepared u).evictEnded u).startSweep r (.evict u) ((s.evictFreed u).countP s.holdsReserved)
        (s.evictFreed u).length
      ⟨.accepted, acceptanceBytes e (openWhere s (fun y => decide (y.issuer = u)))
        ((Bank.get s.queues u).countP (fun e => e.2.state ≠ .purging)), e⟩ := by
  have htest : (fun y : Family => y.issuer == u) = fun y => decide (y.issuer = u) := by
    funext y
    rw [Bool.eq_iff_iff]
    simp
  have hqueues : Table.countRecords (Bank.get s.queues u) (fun x => x.state != .purging) =
      (Bank.get s.queues u).countP (fun e => e.2.state ≠ .purging) := List.countP_congr (fun e _ => by simp)
  have hen : ¬ ((!s.isEnabled u) = true) := by
    rw [(s.isEnabled_iff u).2 hu]
    exact nofun
  have hprepared : ((s.setStation u { s.station u with state := .evicting }).revokeFamilies
      (fun y => decide (y.issuer = u))).purgeAllQueues u = s.evictPrepared u := by
    rw [← htest]
    rfl
  unfold State.evictStation
  rw [if_neg hen, if_neg (by rw [hs]; exact nofun), hqueues, State.countOpen_eq, htest]
  dsimp only
  rw [hprepared]
  have hport : (s.evictPrepared u).port u = s.port u := rfl
  have hreserved : (s.evictPrepared u).holdsReserved = s.holdsReserved := rfl
  unfold State.evictEnded State.evictFreed State.window
  rw [hreserved, hport]
  by_cases hact : (s.port u).state = .active
  · simp only [hact, beq_self_eq_true, if_true]
  · simp only [hact, beq_iff_eq, if_false]

theorem State.evictPrepared_evictable (s : State) (u : StationId) :
    (s.evictPrepared u).evictable u { s.station u with state := .evicting }
      ⟨⟨[], [], [], []⟩, ⟨0, 0, 0⟩, (s.scheduler u).pointer, false⟩ (fun q => (s.queue u q).map Queue.list) := by
  refine ⟨Bank.get_set_self .., Bank.get_set_self .., fun q => ?_⟩
  have hq : (s.evictPrepared u).queue u q =
      (s.queue u q).map (fun x => { x with state := .purging, passComplete := false }) := by
    show Table.find (Bank.get (Bank.set s.queues u _) u) q = _
    rw [Bank.get_set_self]
    exact Table.find_mapRecords ..
  rw [hq]
  constructor
  · rw [Option.map_map]
    rfl
  · intro y hy
    obtain ⟨x, -, rfl⟩ := Option.map_eq_some_iff.1 hy
    exact ⟨rfl, rfl⟩

theorem State.evictEnded_of {P : State → Prop} (h : StoreInvariant P) {s : State} (u : StationId) (hs : P s) :
    P (s.evictEnded u) := by
  unfold State.evictEnded
  split
  · exact h.setPort u _ (h.endSession u hs)
  · exact hs

@[simp] theorem State.evictEnded_lastTicket (s : State) (u : StationId) : (s.evictEnded u).lastTicket = s.lastTicket := by
  unfold State.evictEnded
  split
  · simp [State.endSession]
  · rfl

/-- Without deliveries to free, the end of the session changes the port alone (R115, R161). -/
theorem State.evictEnded_of_empty {s : State} {u : StationId} (h : s.evictFreed u = []) :
    ∃ l, s.evictEnded u = { s with ports := l } := by
  unfold State.evictEnded
  by_cases hact : (s.port u).state = .active
  · rw [State.evictFreed, if_pos hact] at h
    rw [if_pos hact]
    unfold State.endSession
    rw [show (s.window u).outstanding = [] from h]
    exact ⟨_, rfl⟩
  · rw [if_neg hact]
    exact ⟨s.ports, rfl⟩

/-- What EVICT STATION leaves as it is when no delivery is freed (R135). -/
theorem State.evict_blocks {s : State} {u : StationId} (h : s.evictFreed u = []) (r : StationId) (slots n : Nat)
    (a : Answer) :
    let t := (((s.evictPrepared u).evictEnded u).startSweep r (.evict u) slots n).produceAnswer r a
    t.families = revokedWhere s (fun y => decide (y.issuer = u)) ∧ t.tables = s.tables ∧ t.slotsInUse = s.slotsInUse ∧
      t.storeUse = s.storeUse ∧ t.descriptors = s.descriptors ∧ t.reports = s.reports ∧
      ∀ v, v ≠ u → t.station v = s.station v ∧ t.scheduler v = s.scheduler v ∧ ∀ q, t.queue v q = s.queue v q := by
  have hempty : (s.evictPrepared u).evictFreed u = [] := h
  obtain ⟨l, hl⟩ := State.evictEnded_of_empty hempty
  have htest : (fun y : Family => y.issuer == u) = fun y => decide (y.issuer = u) := by
    funext y
    rw [Bool.eq_iff_iff]
    simp
  have hfam : (s.evictPrepared u).families = revokedWhere s (fun y => decide (y.issuer = u)) := by
    show (s.revokeFamilies (fun y => y.issuer == u)).families = _
    rw [State.revokeFamilies_eq, htest]
  rw [hl]
  exact ⟨hfam, rfl, rfl, rfl, rfl, rfl, fun v hv => ⟨Bank.get_set_ne s.stations _ hv, Bank.get_set_ne s.schedulers _ hv,
    fun q => congrArg (Table.find · q) (Bank.get_set_ne s.queues _ hv)⟩⟩

theorem State.evictEnded_port (s : State) (u v : StationId) :
    (s.evictEnded u).port v =
      if v = u ∧ (s.port u).state = .active then { (s.port u).withoutSession with state := .idle, linkReply := none }
      else s.port v := by
  unfold State.evictEnded
  by_cases hact : (s.port u).state = .active
  · rw [if_pos hact, State.port_setPort, State.endSession_port_self]
    by_cases hv : v = u
    · rw [if_pos hv, if_pos ⟨hv, hact⟩]
    · rw [if_neg hv, if_neg (fun k => hv k.1), State.port_of_setPorts (s.endSession_ports u), if_neg hv]
  · rw [if_neg hact, if_neg (fun k => hact k.2)]

end Sys2Proof.Machine

namespace Sys2Proof.Proofs

open Sys2Proof.Machine
open Sys2Proof.Claims (Requested Enabled Manager answered responded withQueue withScheduler revokedWhere openWhere)

/-- Settles O43. -/
theorem revokeFamilyStartsASweep : Obligations.RevokeFamilyStartsASweep := by
  intro p s f rest n1 n0 y h he hperm hn1 hn2 hy ho hsweep
  refine congrArg Host.Outcome.next (Request.take_worked (a := number16 n1 n0) h rfl rfl (by decide) rfl
    (.inr he) (permitIssuer_of hy hperm) ?_ rfl ?_)
  · simp [revokeFamilyRequest, Config.familyCapacity, hn1, hn2]
  · show State.revokeFamily _ p _ = _
    rw [State.revokeFamily, show (s.popped p rest).family (number16 n1 n0) = some y from hy]
    dsimp only
    rw [if_neg (by rw [ho]; exact nofun),
      if_neg (by rw [show (s.popped p rest).sweep = none from hsweep]; exact nofun)]
    rfl

/-- Settles O44. -/
theorem purgeQueueStartsASweep : Obligations.PurgeQueueStartsASweep := by
  intro p s f rest n q u x h hu he hperm hq1 hq2 hq hst hsweep
  refine ⟨(s.scheduler u).left x.band q.toNat, Scheduler.left_leavesBand .., congrArg Host.Outcome.next
    (Request.take_worked (a := (n.toNat, q.toNat)) h rfl rfl (by decide) rfl (.inr he) (permitSelfOr_of hu hperm) ?_ rfl ?_)⟩
  · have hu7 : n.toNat ≤ 7 := by omega
    simp [purgeQueueRequest, Config.lastQueue, hu7, hq2]
  · have htest : Family.targets u q.toNat = fun y => decide (y.issuer = u ∧ y.target = q.toNat) := by
      funext y
      rw [Family.targets, Bool.eq_iff_iff]
      simp
    show withStation _ n.toNat _ = _
    rw [withStation_of hu, State.purgeQueue, if_neg (Nat.one_le_iff_ne_zero.1 hq1),
      show (s.popped p rest).queue u q.toNat = some x from hq]
    dsimp only
    rw [if_neg hst, if_neg (by rw [show (s.popped p rest).sweep = none from hsweep]; exact nofun), State.leaveActive_eq,
      State.revokeFamilies_eq, State.countOpen_eq, htest]
    rfl

/-- EVICT STATION of another ENABLED station while no sweep is in progress is accepted (R134, R135). -/
theorem evictStation_exec {p : PortId} {s : State} {f : IngressFrame} {rest : List IngressFrame} {n : Byte}
    {u : StationId} (h : Requested s p f rest 0x3A [n]) (hu : n.toNat = u.val) (hm : Manager s p) (hup : u ≠ p)
    (he : Enabled s u) (hsweep : s.sweep = none) :
    exec (.evictStation p) s = .next
      ((((((s.popped p rest).evictPrepared u).evictEnded u).startSweep p (.evict u)
          (((s.popped p rest).evictFreed u).countP s.holdsReserved) ((s.popped p rest).evictFreed u).length)).produceAnswer p
        (.response f.session f.seq .accepted
          (bytes8 (nextOf255 s.lastTicket) ++ bytes16 (openWhere s (fun y => decide (y.issuer = u))) ++
            bytes8 ((Bank.get s.queues u).countP (fun e => e.2.state ≠ .purging))))) := by
  have hparams : evictStationRequest.parameters (BitVec.ofNat 8 [n].length).toNat [n] = some n.toNat :=
    Request.parameters_of rfl rfl rfl
  have hne : n.toNat ≠ p.val := fun k => hup (Fin.ext (hu.symm.trans k))
  have hperm : evictStationRequest.permitted (s.popped p rest) p n.toNat = true := by
    show ((s.popped p rest).holdsManage p && n.toNat != p.val) = true
    rw [State.holdsManage_popped hm, bne_iff_ne.2 hne]
    rfl
  have hreply := evictStationRequest.decide_passed (s.popped p rest) p n.toNat (.inr ((s.isEnabled_iff p).2 hm.1)) hperm
    (decide_eq_true (by omega))
  have hwork : evictStationRequest.work (s.popped p rest) p n.toNat = (s.popped p rest).evictStation p u :=
    withStation_of hu _
  rw [hwork, State.evictStation_eq (s := s.popped p rest) he hsweep] at hreply
  refine congrArg Host.Outcome.next ((Request.take_of_parameters h rfl hparams hreply).trans ((if_pos rfl).trans ?_))
  unfold acceptanceBytes
  have hticket : ((((s.popped p rest).evictPrepared u).evictEnded u).startSweep p (.evict u)
      (((s.popped p rest).evictFreed u).countP (s.popped p rest).holdsReserved)
      ((s.popped p rest).evictFreed u).length).lastTicket = nextOf255 s.lastTicket :=
    congrArg nextOf255 (State.evictEnded_lastTicket ..)
  dsimp only
  rw [hticket]
  rfl

/-- Settles O45. -/
theorem evictStationStartsASweep : Obligations.EvictStationStartsASweep := by
  intro p s f rest n u h hu hm hup he hsweep
  have hport : (s.popped p rest).port u = s.port u := by
    rw [State.port_popped, if_neg hup]
  have hfreed : (s.popped p rest).evictFreed u =
      if decide ((s.port u).state = .active) then (s.port u).window.outstanding else [] := by
    rw [State.evictFreed, hport]
    exact if_congr decide_eq_true_iff.symm rfl rfl
  have hev : (((s.popped p rest).evictPrepared u).evictEnded u).evictable u { s.station u with state := .evicting }
      ⟨⟨[], [], [], []⟩, ⟨0, 0, 0⟩, (s.scheduler u).pointer, false⟩ (fun q => (s.queue u q).map Queue.list) :=
    State.evictEnded_of (evictable_grantBlind rfl).toStoreInvariant u ((s.popped p rest).evictPrepared_evictable u)
  have hgen : ((((s.popped p rest).evictPrepared u).evictEnded u).station p).generation = (s.station p).generation := by
    have hstanding : (((s.popped p rest).evictPrepared u).station p).standing = (s.station p).standing :=
      congrArg Station.standing (Bank.get_set_ne _ _ (fun k => hup k.symm))
    exact Station.generation_of_standing
      (State.evictEnded_of (standing_grantBlind p (s.station p).standing).toStoreInvariant u hstanding)
  obtain ⟨hst, hsch, hq⟩ := hev
  refine ⟨_, evictStation_exec h hu hm hup he hsweep, hst, fun q x hx => ?_, hsch,
    congrArg nextOf255 (State.evictEnded_lastTicket ..), ?_, ?_, ?_, fun hnone => ?_⟩
  · obtain ⟨hlist, hpurging⟩ := hq q
    dsimp only at hlist
    rw [hx] at hlist
    obtain ⟨y, hy, hyl⟩ := Option.map_eq_some_iff.1 hlist
    obtain ⟨h1, h2⟩ := hpurging y hy
    exact ⟨y, hy, h1, h2, hyl⟩
  · show some (Sweep.mk _ _ (nextOf255 (((s.popped p rest).evictPrepared u).evictEnded u).lastTicket) p _ _ _) = _
    rw [hgen, hfreed, State.evictEnded_lastTicket]
    rfl
  · rw [State.produceAnswer, State.port_setPort, if_neg hup]
    show (((s.popped p rest).evictPrepared u).evictEnded u).port u = _
    rw [State.evictEnded_port]
    show (if u = u ∧ ((s.popped p rest).port u).state = .active then
      { ((s.popped p rest).port u).withoutSession with state := .idle, linkReply := none } else (s.popped p rest).port u) = _
    rw [hport]
    exact if_congr (by simp) rfl rfl
  · rw [State.produceAnswer, State.port_setPort_self]
    have hp : (State.startSweep (((s.popped p rest).evictPrepared u).evictEnded u) p (.evict u)
        (((s.popped p rest).evictFreed u).countP s.holdsReserved) ((s.popped p rest).evictFreed u).length).port p =
        (s.popped p rest).port p := by
      show (((s.popped p rest).evictPrepared u).evictEnded u).port p = _
      rw [State.evictEnded_port, if_neg (fun k => hup k.1.symm)]
      rfl
    rw [hp, State.popped, State.port_setPort_self]
    rfl
  · obtain ⟨hfam, htab, hslots, huse, hdesc, hrep, hother⟩ :=
      State.evict_blocks (s := s.popped p rest) (u := u) (hfreed.trans hnone) p
        (((s.popped p rest).evictFreed u).countP s.holdsReserved) ((s.popped p rest).evictFreed u).length
        (.response f.session f.seq .accepted
          (bytes8 (nextOf255 s.lastTicket) ++ bytes16 (openWhere s (fun y => decide (y.issuer = u))) ++
            bytes8 ((Bank.get s.queues u).countP (fun e => e.2.state ≠ .purging))))
    exact ⟨hfam, htab, hslots, huse, hdesc, hrep, hother⟩

end Sys2Proof.Proofs
end

section
/-! PROOFS. Admission (R61 to R78), and the statements O22 to O25. -/

namespace Sys2Proof.Machine

open Sys2Proof.Claims (Offered IsFlag rightsOf budgetOf Enabled answered answeredPort withPort withTable withMessage
  newDescriptor cellsNeeded checkedVerdict attachFault MayBeAccepted joinedIfEmpty)

/-! ### An offered MESSAGE frame -/

theorem exec_admission {s : State} {p : PortId} {f : IngressFrame} {rest : List IngressFrame} {body : List Byte}
    (h : Offered s p .message f rest body) :
    exec (.admission p) s = .next ((s.popped p rest).answerMessage p f) := by
  obtain ⟨hin, hkind, -, hroom⟩ := h
  have hhead : s.takeHeadFrame p .message = some (f, s.popped p rest) := by
    rw [State.takeHeadFrame_eq_some]
    exact ⟨rest, hin, hkind, decide_eq_true (p := (s.port p).answers.length < Config.answerCapacity) hroom, rfl⟩
  show execAdmission p s = _
  unfold execAdmission
  rw [hhead]

theorem State.answerMessage_error {s : State} {p : PortId} {f : IngressFrame} {m : MessageRequest} {v : Verdict}
    (rest : List IngressFrame) (hread : readMessage f.body = some m) (h : (s.popped p rest).admissionChecks p m = .error v) :
    (s.popped p rest).answerMessage p f = answered s p rest (.verdict f.session f.seq v .zero) := by
  unfold State.answerMessage
  rw [hread]
  dsimp only
  rw [h]
  exact State.produceAnswer_popped ..

theorem State.answerMessage_ok {s : State} {p : PortId} {f : IngressFrame} {m : MessageRequest} {c : AdmissionContext}
    (hread : readMessage f.body = some m) (h : s.admissionChecks p m = .ok c) :
    s.answerMessage p f =
      (s.commitMessage p m c).produceAnswer p
        (.verdict f.session f.seq .accepted (.budget (((s.commitMessage p m c).slot p m.slot).bind Slot.budget))) := by
  unfold State.answerMessage
  rw [hread]
  dsimp only
  rw [h]

theorem State.answerMessage_malformed {s : State} {p : PortId} {f : IngressFrame} (rest : List IngressFrame)
    (hread : readMessage f.body = none) (hst : (s.port p).state = .active)
    (hl : (s.port p).protocolErrors + 1 ≠ (s.port p).protocolLimit) :
    (s.popped p rest).answerMessage p f =
      withPort s p
        { answeredPort (s.port p) rest (.verdict f.session f.seq .malformed .zero) with
          protocolErrors := (s.port p).protocolErrors + 1 } := by
  unfold State.answerMessage
  rw [hread]
  dsimp only
  rw [State.produceAnswer_popped]
  have hport : (answered s p rest (.verdict f.session f.seq .malformed .zero)).port p =
      answeredPort (s.port p) rest (.verdict f.session f.seq .malformed .zero) := Bank.get_set_self _ p _
  rw [State.protocolError_counted (by rw [hport]; exact hst) (by rw [hport]; exact hl), hport]
  unfold State.setPort withPort answered
  dsimp only
  rw [Bank.set_set]
  rfl

/-! ### The bytes of a MESSAGE frame (R64, R198, R199) -/

section

variable {s1 s0 exp l1 l0 : Byte} {payload : List Byte}

theorem readMessage_plain (hexp : IsFlag exp) (hn : number16 s1 s0 ≠ 0) (hl : number16 l1 l0 = payload.length) :
    readMessage (Claims.plainMessage s1 s0 exp l1 l0 payload) =
      some ⟨number16 s1 s0, exp = 1#8, none, payload⟩ := by
  simp [readMessage, Claims.plainMessage, readFlag_of hexp, readAttached, hn, hl]

theorem readMessage_attaching {c1 c0 mode r b2 b1 b0 : Byte} {a : Attach} (hexp : IsFlag exp) (hn : number16 s1 s0 ≠ 0)
    (hl : number16 l1 l0 = payload.length) (ha : readAttach c1 c0 mode r b2 b1 b0 = some a) :
    readMessage (Claims.attachingMessage s1 s0 exp l1 l0 c1 c0 mode r b2 b1 b0 payload) =
      some ⟨number16 s1 s0, exp = 1#8, some a, payload⟩ := by
  simp [readMessage, Claims.attachingMessage, readFlag_of hexp, readAttached, ha, hn, hl]

end

theorem readAttach_share {c1 c0 r b2 b1 b0 : Byte} (hc : number16 c1 c0 ≠ 0) (hr : r.toNat < 16) (hr0 : r ≠ 0#8)
    (hb : IsFlag b2) (hb0 : budgetOf b2 b1 b0 ≠ some 0) :
    readAttach c1 c0 1#8 r b2 b1 b0 = some (.share (number16 c1 c0) (rightsOf r) (budgetOf b2 b1 b0)) := by
  simp [readAttach, hc, readRights_of hr, readBudget_of hb, rightsOf_isEmpty hr hr0, hb0]

theorem readAttach_move {c1 c0 r b2 b1 b0 : Byte} (hc : number16 c1 c0 ≠ 0) :
    readAttach c1 c0 2#8 r b2 b1 b0 = some (.move (number16 c1 c0)) := by
  simp [readAttach, hc]

theorem readMessage_malformed {s1 s0 exp ind l1 l0 : Byte} {payload : List Byte}
    (h : number16 s1 s0 = 0 ∨ ¬ IsFlag exp ∨ ¬ IsFlag ind ∨ (ind = 0#8 ∧ number16 l1 l0 ≠ payload.length)) :
    readMessage (s1 :: s0 :: exp :: ind :: l1 :: l0 :: payload) = none := by
  cases hexp : readFlag exp with
  | none => simp only [readMessage, hexp]
  | some e =>
    cases hatt : readAttached ind payload with
    | none => simp only [readMessage, hexp, hatt]
    | some a =>
      obtain ⟨attach, left⟩ := a
      simp only [readMessage, hexp, hatt]
      rw [if_pos]
      rw [Bool.or_eq_true, decide_eq_true_iff, bne_iff_ne]
      rcases h with h | h | h | ⟨h, hl⟩
      · exact .inl h
      · rw [readFlag_eq_none h] at hexp
        exact nomatch hexp
      · obtain ⟨h0, h1⟩ := not_or.1 h
        unfold readAttached at hatt
        rw [if_neg h0, if_neg h1] at hatt
        exact nomatch hatt
      · unfold readAttached at hatt
        rw [if_pos h] at hatt
        cases hatt
        exact .inr (fun k => hl k.symm)

/-! ### The checks (R63 to R75) -/

theorem State.definedSlot_eq (s : State) (t : StationId) (n : Nat) :
    s.definedSlot t n =
      match s.slot t n with
      | none => none
      | some x => if x.status = .defined then some x else none := by
  unfold State.definedSlot
  cases s.slot t n with
  | none => rfl
  | some x => simp [Option.filter_some]

theorem State.definedSlot_of {s : State} {t : StationId} {n : Nat} {x : Slot} (h : s.slot t n = some x)
    (hd : x.status = .defined) : s.definedSlot t n = some x := by
  rw [State.definedSlot_eq, h]
  exact if_pos hd

/-- The verdict of the first failing check from check 2 on, ACCEPTED when all pass (R63). -/
theorem State.admissionChecks_verdict {s : State} {t : StationId} {m : MessageRequest} {fault : Option Verdict}
    (hf : m.attach.bind (s.attachFailure t m.slot) = fault) :
    checkedVerdict s t m.slot m.expedite m.payload.length fault = .accepted ∨
      s.admissionChecks t m = .error (checkedVerdict s t m.slot m.expedite m.payload.length fault) := by
  unfold checkedVerdict State.admissionChecks
  rw [hf, State.definedSlot_eq]
  by_cases hen : (s.station t).state = .enabled
  case neg =>
    have hen' : (!s.isEnabled t) = true := by simp [State.isEnabled, hen]
    exact .inr (by rw [if_pos hen', if_pos hen])
  have hen' : ¬ (!s.isEnabled t) = true := by simp [State.isEnabled, hen]
  rw [if_neg (not_not.2 hen), if_neg hen']
  by_cases hlen : 448 < m.payload.length
  case pos => exact .inr (by rw [if_pos hlen]; exact if_pos hlen)
  have hlen' : ¬ Config.payloadMax < m.payload.length := hlen
  rw [if_neg hlen, if_neg hlen']
  cases hx : s.slot t m.slot with
  | none => exact .inr rfl
  | some x =>
    dsimp only
    by_cases hd : x.status = .defined
    case neg => exact .inr (by rw [if_neg hd, if_pos hd])
    rw [if_pos hd, if_neg (not_not.2 hd)]
    dsimp only
    by_cases hsend : x.rights.send = true
    case neg =>
      have hright : (!x.rights.send || (m.expedite && !x.rights.expedite)) = true := by simp [hsend]
      exact .inr (by rw [if_pos hright, if_pos (by simpa using hsend)])
    have hsend' : ¬ x.rights.send = false := by simp [hsend]
    by_cases hexp : m.expedite = true ∧ x.rights.expedite = false
    case pos =>
      have hright : (!x.rights.send || (m.expedite && !x.rights.expedite)) = true := by simp [hexp]
      exact .inr (by rw [if_pos hright, if_neg hsend', if_pos hexp])
    have hright : ¬ (!x.rights.send || (m.expedite && !x.rights.expedite)) = true := by simpa [hsend] using hexp
    rw [if_neg hsend', if_neg hexp, if_neg hright]
    cases hy : s.family x.family with
    | none => exact .inr rfl
    | some y =>
      by_cases ho : y.state = .opened
      case neg =>
        have hr : y.state = .revoking := by cases h : y.state <;> simp_all
        have hgone : (some y).filter (fun f => f.state == .opened) = none := by simp [Option.filter_some, ho]
        exact .inr (by rw [hgone]; exact congrArg Except.error (if_pos hr).symm)
      simp only [ho, Option.filter_some, beq_self_eq_true, if_true, reduceCtorEq, if_false]
      cases hq : s.queue y.issuer y.target with
      | none => exact .inr rfl
      | some q =>
        by_cases hqo : q.state = .opened
        case neg =>
          have hgone : (some q).filter (fun z => z.state == .opened) = none := by simp [Option.filter_some, hqo]
          exact .inr (by rw [hgone]; exact congrArg Except.error (if_pos hqo).symm)
        simp only [hqo, Option.filter_some, beq_self_eq_true, if_true, ne_eq, not_true, if_false]
        by_cases hb : x.budget = some 0
        case pos => exact .inr (by rw [if_pos hb, if_pos hb])
        rw [if_neg hb, if_neg hb]
        cases fault with
        | some v => exact .inr rfl
        | none =>
          unfold State.roomFailure
          dsimp only
          by_cases hfull : q.depth ≤ q.heldMessages
          case pos => exact .inr (by rw [if_pos hfull, if_pos hfull])
          rw [if_neg hfull, if_neg hfull]
          by_cases hquota : (s.station y.issuer).cellQuota < Bank.get s.heldCells y.issuer + (m.payload.length + 63) / 64
          case pos =>
            refine .inr ?_
            have hquota' : (s.station y.issuer).cellQuota < Bank.get s.heldCells y.issuer + cellsOf m.payload.length := hquota
            rw [if_pos hquota, if_pos hquota']
          have hquota' : ¬ (s.station y.issuer).cellQuota < Bank.get s.heldCells y.issuer + cellsOf m.payload.length := hquota
          rw [if_neg hquota, if_neg hquota']
          by_cases hpool : s.freeDescriptors = 0 ∨ s.freeCells < (m.payload.length + 63) / 64
          case pos =>
            have hpool' : s.freeDescriptors = 0 ∨ s.freeCells < cellsOf m.payload.length := hpool
            exact .inr (by rw [if_pos hpool, if_pos hpool'])
          exact .inl (if_neg hpool)

/-- The checks of a frame that passes them all (R63). -/
theorem State.admissionChecks_passed {s : State} {p : PortId} {n : Nat} {expedite : Bool} {payload : List Byte} {x : Slot}
    {y : Family} {q : Queue} {attach : Option Attach} (h : MayBeAccepted s p n expedite payload x y q)
    (ha : attach.bind (s.attachFailure p n) = none) :
    s.admissionChecks p ⟨n, expedite, attach, payload⟩ = .ok ⟨x, y, q⟩ := by
  obtain ⟨hen, hlen, -, hx, hd, hsend, hexp, hy, ho, hq, hqo, hb, hdepth, hquota, hdesc, hcells⟩ := h
  have hroom : s.roomFailure y.issuer q (cellsOf payload.length) = none := by
    unfold State.roomFailure
    rw [if_neg (Nat.not_le.2 hdepth), if_neg (by exact Nat.not_lt.2 hquota), if_neg]
    rintro (k | k)
    · exact hdesc k
    · exact Nat.not_lt.2 hcells k
  have hright : ¬ (!x.rights.send || (expedite && !x.rights.expedite)) = true := by
    cases expedite <;> simp_all
  unfold State.admissionChecks
  dsimp only
  rw [if_neg (by simp [(s.isEnabled_iff p).2 hen]), if_neg (by exact Nat.not_lt.2 hlen), State.definedSlot_of hx hd]
  dsimp only
  rw [if_neg hright, hy]
  simp only [ho, Option.filter_some, beq_self_eq_true, if_true, hq, hqo]
  rw [if_neg hb, ha]
  dsimp only
  rw [hroom]

/-! ### The attach section (R70 to R72) -/

theorem State.familyOpen_iff_exists (s : State) (f : Nat) :
    s.familyOpen f = true ↔ ∃ w, s.family f = some w ∧ w.state = .opened := by
  simp [State.familyOpen, Option.any_eq_true]

/-- Checks 9.1 to 9.6 on a SHARE (R70, R72). -/
theorem State.attachFailure_share (s : State) (p : PortId) (n c : Nat) (rights : Rights) (budget : Option Nat) :
    s.attachFailure p n (.share c rights budget) = attachFault s p n c 1#8 rights budget := by
  have hmode : (1#8 : Byte) ≠ 2#8 := by decide
  rw [State.attachFailure, attachFault, if_neg (fun k => hmode k.1), State.definedSlot_eq]
  cases hz : s.slot p c with
  | none => rfl
  | some z =>
    dsimp only
    by_cases hd : z.status = .defined
    case neg => rw [if_neg hd, if_pos hd]
    rw [if_pos hd, if_neg (not_not.2 hd)]
    dsimp only
    have hopen := s.familyOpen_iff_exists z.family
    by_cases hs : z.rights.share = true
    case neg =>
      have hs' : z.rights.share = false := by simpa using hs
      have hfault : (1#8 : Byte) = 1#8 ∧ z.rights.share = false ∨ (1#8 : Byte) = 2#8 ∧ z.rights.move = false :=
        .inl ⟨rfl, hs'⟩
      rw [if_pos hfault, hs']
      rfl
    have hs' : ¬ ((1#8 : Byte) = 1#8 ∧ z.rights.share = false ∨ (1#8 : Byte) = 2#8 ∧ z.rights.move = false) := by
      simp [hs]
    rw [if_neg hs', hs]
    by_cases ho : s.familyOpen z.family = true
    case neg =>
      have hclosed : s.familyOpen z.family = false := by simpa using ho
      rw [if_pos (c := ¬ ∃ w, _) (fun k => ho (hopen.2 k)), hclosed]
      rfl
    rw [if_neg (not_not.2 (hopen.1 ho)), if_neg hmode, ho]
    by_cases hw : rights.within z.rights = true
    case neg =>
      have hw' : rights.within z.rights = false := by simpa using hw
      rw [if_pos hw', hw']
      rfl
    have hw' : ¬ rights.within z.rights = false := by simp [hw]
    rw [if_neg hw', hw]
    by_cases hcn : c = n
    · subst hcn
      cases z.budget <;> cases budget <;> simp [shareBudgetAllowed]
    · cases z.budget <;> cases budget <;> simp [shareBudgetAllowed, hcn]

/-- Checks 9.1 to 9.5 on a MOVE (R71). -/
theorem State.attachFailure_move (s : State) (p : PortId) (n c : Nat) (rights : Rights) (budget : Option Nat) :
    s.attachFailure p n (.move c) = attachFault s p n c 2#8 rights budget := by
  rw [State.attachFailure, attachFault]
  by_cases hcn : c = n
  · rw [if_pos hcn, if_pos ⟨rfl, hcn⟩]
  rw [if_neg hcn, if_neg (fun k => hcn k.2), State.definedSlot_eq]
  cases hz : s.slot p c with
  | none => rfl
  | some z =>
    dsimp only
    by_cases hd : z.status = .defined
    case neg => rw [if_neg hd, if_pos hd]
    rw [if_pos hd, if_neg (not_not.2 hd)]
    dsimp only
    have hopen := s.familyOpen_iff_exists z.family
    by_cases hs : z.rights.move = true
    case neg =>
      have hs' : z.rights.move = false := by simpa using hs
      have hfault : (2#8 : Byte) = 1#8 ∧ z.rights.share = false ∨ (2#8 : Byte) = 2#8 ∧ z.rights.move = false :=
        .inr ⟨rfl, hs'⟩
      rw [if_pos hfault, hs']
      rfl
    have hs' : ¬ ((2#8 : Byte) = 1#8 ∧ z.rights.share = false ∨ (2#8 : Byte) = 2#8 ∧ z.rights.move = false) := by
      simp [hs]
    rw [if_neg hs', hs]
    by_cases ho : s.familyOpen z.family = true
    case neg =>
      have hclosed : s.familyOpen z.family = false := by simpa using ho
      rw [if_pos (c := ¬ ∃ w, _) (fun k => ho (hopen.2 k)), hclosed]
      rfl
    rw [if_neg (not_not.2 (hopen.1 ho)), if_pos rfl, ho]
    rfl

end Sys2Proof.Machine

namespace Sys2Proof.Proofs

open Sys2Proof.Machine
open Sys2Proof.Claims (Offered IsFlag rightsOf budgetOf Enabled answered answeredPort withPort withTable withMessage
  newDescriptor cellsNeeded checkedVerdict attachFault MayBeAccepted joinedIfEmpty)

/-- Settles O25. -/
theorem malformedMessageIsAProtocolError : Obligations.MalformedMessageIsAProtocolError := by
  intro p s f rest s1 s0 exp ind l1 l0 payload h hst hl hbad
  have hread : readMessage f.body = none := by
    rw [h.2.2.1]
    exact readMessage_malformed hbad
  rw [exec_admission h, State.answerMessage_malformed rest hread hst hl]

/-- Settles O23. -/
theorem firstFailingCheckGivesTheVerdict : Obligations.FirstFailingCheckGivesTheVerdict := by
  refine ⟨fun p s f rest s1 s0 exp l1 l0 payload h hexp hl hn hv => ?_,
    fun p s f rest s1 s0 exp l1 l0 c1 c0 mode r b2 b1 b0 payload h hexp hl hn hc hdef => ?_⟩
  · have hread : readMessage f.body = some ⟨number16 s1 s0, exp = 1#8, none, payload⟩ := by
      rw [h.2.2.1]
      exact readMessage_plain hexp hn hl
    have hchecks := (State.admissionChecks_verdict (s := s.popped p rest) (t := p)
      (m := ⟨number16 s1 s0, exp = 1#8, none, payload⟩) rfl).resolve_left hv
    rw [exec_admission h, State.answerMessage_error rest hread hchecks]
    rfl
  · intro fault verdict hv
    obtain ⟨a, ha, hfail⟩ : ∃ a, readAttach c1 c0 mode r b2 b1 b0 = some a ∧
        s.attachFailure p (number16 s1 s0) a = fault := by
      rcases hdef with rfl | ⟨rfl, hr, hr0, hb, hb0⟩
      · exact ⟨_, readAttach_move hc, s.attachFailure_move p _ _ _ _⟩
      · exact ⟨_, readAttach_share hc hr hr0 hb hb0, s.attachFailure_share p _ _ _ _⟩
    have hread : readMessage f.body = some ⟨number16 s1 s0, exp = 1#8, some a, payload⟩ := by
      rw [h.2.2.1]
      exact readMessage_attaching hexp hn hl ha
    have hchecks := (State.admissionChecks_verdict (s := s.popped p rest) (t := p)
      (m := ⟨number16 s1 s0, exp = 1#8, some a, payload⟩) hfail).resolve_left hv
    rw [exec_admission h, State.answerMessage_error rest hread hchecks]
    rfl

end Sys2Proof.Proofs
end

section
/-! PROOFS. The commit of an admission (R76 to R78), and the statements O22 and O24. -/

namespace Sys2Proof.Machine

open Sys2Proof.Claims (Offered IsFlag rightsOf budgetOf Enabled answered answeredPort withPort withTable withMessage
  newDescriptor cellsNeeded MayBeAccepted joinedIfEmpty)

/-! ### The place of the entry (R38) -/

theorem insertAdmitted_normal (l : List ListEntry) (e : EntryRef) :
    insertAdmitted l ⟨e, .normal⟩ = l ++ [⟨e, .normal⟩] := if_neg nofun

/-- An expedited entry goes behind the returned and the expedited ones (R38). -/
theorem insertAdmitted_expedited {before after : List ListEntry} (e : EntryRef)
    (hb : ∀ a ∈ before, a.segment ≠ .normal) (ha : ∀ a ∈ after, a.segment = .normal) :
    insertAdmitted (before ++ after) ⟨e, .expedited⟩ = before ++ ⟨e, .expedited⟩ :: after := by
  have hbefore : ∀ a ∈ before, (a.segment != .normal) = true := fun a k => bne_iff_ne.2 (hb a k)
  have htake : after.takeWhile (fun a => a.segment != .normal) = [] := by
    cases after with
    | nil => rfl
    | cons a r => exact List.takeWhile_cons_of_neg (by simp [ha a List.mem_cons_self])
  have hdrop : after.dropWhile (fun a => a.segment != .normal) = after := by
    cases after with
    | nil => rfl
    | cons a r => exact List.dropWhile_cons_of_neg (by simp [ha a List.mem_cons_self])
  refine (if_pos rfl).trans ?_
  rw [List.takeWhile_append_of_pos hbefore, List.dropWhile_append_of_pos hbefore, htake, hdrop, List.append_nil]

/-! ### The sending slot and the carried slot (R76) -/

theorem State.spend_of {s : State} {t : StationId} {n : Nat} {x : Slot} (b : Nat) (h : s.slot t n = some x) :
    s.spend t n b = s.writeSlot t n { x with budget := x.budget.map (· - b) } := by
  unfold State.spend
  rw [h]

theorem State.attachGrant_share {s : State} {t : StationId} {n : Nat} {x : Slot} {y : Family} (rights : Rights)
    (budget : Option Nat) (h : s.slot t n = some x) (hy : s.family x.family = some y) :
    s.attachGrant t (some (.share n rights budget)) =
      ({ s.writeSlot t n { x with budget := x.budget.map (· - budget.getD 0) } with
          families := Table.put s.families x.family { y with live := y.live + 1 } },
        some ⟨x.family, rights, budget, .inTransit⟩) := by
  rw [State.attachGrant, h]
  dsimp only
  rw [State.spend_of _ h, State.raiseLive_of (y := y) (by exact hy)]
  rfl

theorem State.attachGrant_move {s : State} {t : StationId} {n : Nat} {x : Slot} (h : s.slot t n = some x) :
    s.attachGrant t (some (.move n)) =
      (s.vacateSlot t n, some ⟨x.family, x.rights, x.budget, .inTransit⟩) := by
  rw [State.attachGrant, h]

/-- Checks 9.1 to 9.6 on a SHARE when they pass (R70, R72). -/
theorem State.attachFailure_share_none {s : State} {p : PortId} {n c : Nat} {z : Slot} {w : Family} {rights : Rights}
    {budget : Option Nat} (hz : s.slot p c = some z) (hd : z.status = .defined) (hs : z.rights.share = true)
    (hw : s.family z.family = some w) (ho : w.state = .opened) (hin : rights.within z.rights = true)
    (hbudget : ∀ b, z.budget = some b → ∃ k, budget = some k ∧ (if c = n then k + 1 else k) ≤ b) :
    s.attachFailure p n (.share c rights budget) = none := by
  have hopen : s.familyOpen z.family = true := (s.familyOpen_iff_exists _).2 ⟨w, hw, ho⟩
  have hallowed : shareBudgetAllowed (c == n) z.budget budget = true := by
    cases hb : z.budget with
    | none => rfl
    | some b =>
      obtain ⟨k, rfl, hk⟩ := hbudget b hb
      by_cases hcn : c = n
      · rw [if_pos hcn] at hk
        simp [shareBudgetAllowed, hcn, hk]
      · rw [if_neg hcn] at hk
        simp [shareBudgetAllowed, hcn, hk]
  rw [State.attachFailure, State.definedSlot_of hz hd]
  dsimp only
  rw [hs, hopen, hin, hallowed]
  rfl

/-- Checks 9.1 to 9.5 on a MOVE when they pass (R71). -/
theorem State.attachFailure_move_none {s : State} {p : PortId} {n c : Nat} {z : Slot} {w : Family} (hcn : c ≠ n)
    (hz : s.slot p c = some z) (hd : z.status = .defined) (hm : z.rights.move = true) (hw : s.family z.family = some w)
    (ho : w.state = .opened) : s.attachFailure p n (.move c) = none := by
  have hopen : s.familyOpen z.family = true := (s.familyOpen_iff_exists _).2 ⟨w, hw, ho⟩
  rw [State.attachFailure, if_neg hcn, State.definedSlot_of hz hd]
  dsimp only
  rw [hm, hopen]
  rfl

/-! ### The committed state -/

theorem State.enqueued_blocks (s : State) (t : StationId) (q : Nat) (x : Queue) (e : ListEntry) (n : Nat) :
    (s.enqueued t q x e n).tables = s.tables ∧ (s.enqueued t q x e n).families = s.families ∧
      (s.enqueued t q x e n).slotsInUse = s.slotsInUse ∧ (s.enqueued t q x e n).storeUse = s.storeUse ∧
      (s.enqueued t q x e n).descriptors = s.descriptors ∧ (s.enqueued t q x e n).ports = s.ports := by
  unfold State.enqueued
  dsimp only
  split <;> exact ⟨rfl, rfl, rfl, rfl, rfl, rfl⟩

/-- The grants and the descriptors of a committed state, b being what the attach section did (R76, R77). -/
theorem State.commitMessage_blocks {s : State} {p : PortId} {m : MessageRequest} {c : AdmissionContext}
    {b : State × Option CarriedGrant} (hb : (s.spend p m.slot 1).attachGrant p m.attach = b) :
    (s.commitMessage p m c).tables = b.1.tables ∧ (s.commitMessage p m c).families = b.1.families ∧
      (s.commitMessage p m c).slotsInUse = b.1.slotsInUse ∧ (s.commitMessage p m c).storeUse = b.1.storeUse ∧
      (s.commitMessage p m c).descriptors =
        Table.put b.1.descriptors (Table.lowestFree b.1.descriptors 0)
          (newDescriptor p m.expedite m.payload c.family b.2) ∧
      (s.commitMessage p m c).ports = b.1.ports := by
  subst hb
  exact State.enqueued_blocks ..

/-- The committed state of a MESSAGE frame without an attach section (R76, R77). -/
theorem State.commitMessage_plain {s : State} {p : PortId} {n : Nat} {x : Slot} {y : Family} {q : Queue}
    (expedite : Bool) (payload : List Byte) (rest : List IngressFrame) (h : s.slot p n = some x) :
    (s.popped p rest).commitMessage p ⟨n, expedite, none, payload⟩ ⟨x, y, q⟩ =
      (withMessage (withTable s p (Table.put (Bank.get s.tables p) n { x with budget := x.budget.map (· - 1) }))
        (newDescriptor p expedite payload y none) q
        (insertAdmitted q.list ⟨.message (Table.lowestFree s.descriptors 0), if expedite then .expedited else .normal⟩)).popped
          p rest := by
  unfold State.commitMessage
  dsimp only
  rw [State.spend_of (s := s.popped p rest) 1 h]
  unfold withMessage joinedIfEmpty State.attachGrant State.listMessage
  dsimp only
  by_cases hl : q.list = []
  · have hempty : q.list.isEmpty = true := by rw [hl]; rfl
    rw [if_pos hempty, if_pos hl]
    rfl
  · have hne : ¬ q.list.isEmpty = true := by simpa using hl
    rw [if_neg hne, if_neg hl]
    rfl

/-- An accepted MESSAGE frame with an attach section, b being what the section did (R76 to R78). -/
theorem exec_admission_attached {s : State} {p : PortId} {f : IngressFrame} {rest : List IngressFrame}
    {s1 s0 exp l1 l0 c1 c0 mode r b2 b1 b0 : Byte} {payload : List Byte} {x : Slot} {y : Family} {q : Queue} {a : Attach}
    {b : State × Option CarriedGrant}
    (h : Offered s p .message f rest (Claims.attachingMessage s1 s0 exp l1 l0 c1 c0 mode r b2 b1 b0 payload))
    (hexp : IsFlag exp) (hl : number16 l1 l0 = payload.length)
    (hmay : MayBeAccepted s p (number16 s1 s0) (exp = 1#8) payload x y q)
    (ha : readAttach c1 c0 mode r b2 b1 b0 = some a) (hfault : s.attachFailure p (number16 s1 s0) a = none)
    (hb : ((s.popped p rest).spend p (number16 s1 s0) 1).attachGrant p (some a) = b)
    (hports : b.1.ports = (s.popped p rest).ports) :
    ∃ t, exec (.admission p) s = .next t ∧ t.tables = b.1.tables ∧ t.families = b.1.families ∧
      t.slotsInUse = b.1.slotsInUse ∧ t.storeUse = b.1.storeUse ∧
      t.descriptor (Table.lowestFree b.1.descriptors 0) = some (newDescriptor p (exp = 1#8) payload y b.2) ∧
      t.port p = answeredPort (s.port p) rest
        (.verdict f.session f.seq .accepted (.budget ((b.1.slot p (number16 s1 s0)).bind Slot.budget))) := by
  have hread : readMessage f.body = some ⟨number16 s1 s0, exp = 1#8, some a, payload⟩ := by
    rw [h.2.2.1]
    exact readMessage_attaching hexp hmay.2.2.1 hl ha
  have hchecks : (s.popped p rest).admissionChecks p ⟨number16 s1 s0, exp = 1#8, some a, payload⟩ = .ok ⟨x, y, q⟩ :=
    State.admissionChecks_passed (s := s.popped p rest) hmay hfault
  obtain ⟨htab, hfam, hslots, huse, hdesc, hp⟩ := State.commitMessage_blocks
    (m := ⟨number16 s1 s0, exp = 1#8, some a, payload⟩) (c := ⟨x, y, q⟩) hb
  refine ⟨_, (exec_admission h).trans (congrArg Host.Outcome.next (State.answerMessage_ok hread hchecks)), htab, hfam,
    hslots, huse, ?_, ?_⟩
  · show Table.find (State.descriptors _) _ = _
    rw [State.produceAnswer, State.setPort, hdesc, Table.find_put_self]
  · rw [State.produceAnswer, State.port_setPort_self, State.port_of_ports (hp.trans hports), State.popped,
      State.port_setPort_self]
    have hslot : ((s.popped p rest).commitMessage p ⟨number16 s1 s0, exp = 1#8, some a, payload⟩ ⟨x, y, q⟩).slot p
        (number16 s1 s0) = b.1.slot p (number16 s1 s0) := by
      unfold State.slot State.table
      rw [htab]
    exact congrArg (fun o : Option Slot => answeredPort (s.port p) rest
      (.verdict f.session f.seq .accepted (.budget (o.bind Slot.budget)))) hslot

end Sys2Proof.Machine

namespace Sys2Proof.Proofs

open Sys2Proof.Machine
open Sys2Proof.Claims (Offered IsFlag rightsOf budgetOf Enabled answered answeredPort withTable withMessage newDescriptor
  cellsNeeded MayBeAccepted)

/-- Settles O22. -/
theorem acceptedMessageIsListed : Obligations.AcceptedMessageIsListed := by
  intro p s f rest s1 s0 exp l1 l0 payload x y q before after h hexp hl hmay hlist hb ha
  have hread : readMessage f.body = some ⟨number16 s1 s0, exp = 1#8, none, payload⟩ := by
    rw [h.2.2.1]
    exact readMessage_plain hexp hmay.2.2.1 hl
  have hchecks : (s.popped p rest).admissionChecks p ⟨number16 s1 s0, exp = 1#8, none, payload⟩ = .ok ⟨x, y, q⟩ :=
    State.admissionChecks_passed (s := s.popped p rest) hmay rfl
  have hplace : insertAdmitted q.list ⟨.message (Table.lowestFree s.descriptors 0),
      if decide (exp = 1#8) then .expedited else .normal⟩ =
      if exp = 1#8 then before ++ ⟨.message (Table.lowestFree s.descriptors 0), .expedited⟩ :: after
      else q.list ++ [⟨.message (Table.lowestFree s.descriptors 0), .normal⟩] := by
    by_cases he : exp = 1#8
    · rw [if_pos he, if_pos (decide_eq_true he), hlist]
      exact insertAdmitted_expedited _ hb ha
    · rw [if_neg he, if_neg (by simpa using he)]
      exact insertAdmitted_normal ..
  have hslot : s.slot p (number16 s1 s0) = some x := hmay.2.2.2.1
  rw [exec_admission h, State.answerMessage_ok hread hchecks, State.commitMessage_plain _ payload rest hslot,
    State.produceAnswer_popped, hplace]
  have hleft : ∀ (a : State) (d : Descriptor) (l : List ListEntry),
      ((withMessage (withTable a p (Table.put (Bank.get s.tables p) (number16 s1 s0)
        { x with budget := x.budget.map (· - 1) })) d q l).popped p rest).slot p (number16 s1 s0) =
        some { x with budget := x.budget.map (· - 1) } := by
    intro a d l
    show Table.find (Bank.get (Bank.set a.tables p _) p) _ = _
    rw [Bank.get_set_self, Table.find_put_self]
  dsimp only
  rw [hleft]
  rfl

/-- Settles O24. -/
theorem attachedGrantTravelsInTransit : Obligations.AttachedGrantTravelsInTransit := by
  refine ⟨fun p s f rest s1 s0 exp l1 l0 c1 c0 mode r b2 b1 b0 payload x z y w q h hexp hl hmay hcan hc0 hcn hz hd hw ho =>
    ⟨fun hmode hshare hr hr0 hb hb0 hin hbudget => ?_, fun hmode hmove => ?_⟩,
    fun p s f rest s1 s0 exp l1 l0 r b2 b1 b0 payload x y q h hexp hl hmay hshare hr hr0 hb hb0 hin hbudget => ?_⟩
  · subst hmode
    have hx : (s.popped p rest).slot p (number16 s1 s0) = some x := hmay.2.2.2.1
    have hz' : ((s.popped p rest).writeSlot p (number16 s1 s0) { x with budget := x.budget.map (· - 1) }).slot p
        (number16 c1 c0) = some z := by
      rw [State.slot_writeSlot, if_neg (fun k => hcn k.2)]
      exact hz
    have hfault := State.attachFailure_share_none (n := number16 s1 s0) (budget := budgetOf b2 b1 b0) hz hd hshare hw ho hin
      (fun b hzb => by
        obtain ⟨k, hk, hle⟩ := hbudget b hzb
        exact ⟨k, hk, by rwa [if_neg hcn]⟩)
    obtain ⟨t, ht, htab, hfam, hslots, huse, hdesc, hport⟩ := exec_admission_attached h hexp hl hmay
      (readAttach_share hc0 hr hr0 hb hb0) hfault
      ((congrArg (fun a => State.attachGrant a p _) (State.spend_of 1 hx)).trans
        (State.attachGrant_share (rightsOf r) (budgetOf b2 b1 b0) hz' hw)) rfl
    have hslot : ∀ n, t.slot p n = (((s.popped p rest).writeSlot p (number16 s1 s0)
        { x with budget := x.budget.map (· - 1) }).writeSlot p (number16 c1 c0)
        { z with budget := z.budget.map (· - (budgetOf b2 b1 b0).getD 0) }).slot p n := fun n => by
      unfold State.slot State.table
      rw [htab]
    have hsending : t.slot p (number16 s1 s0) = some { x with budget := x.budget.map (· - 1) } := by
      rw [hslot, State.slot_writeSlot, if_neg (fun k => hcn k.2.symm), State.slot_writeSlot, if_pos ⟨rfl, rfl⟩]
    have hfamily : ∀ g, t.family g = if g = z.family then some { w with live := w.live + 1 } else s.family g := fun g => by
      unfold State.family
      rw [hfam]
      exact Table.find_put ..
    refine ⟨t, ht, ?_, hsending, ?_, fun g hg => ?_, hdesc, hslots, huse, ?_⟩
    · rw [hslot, State.slot_writeSlot, if_pos ⟨rfl, rfl⟩]
    · rw [hfamily, if_pos rfl]
    · rw [hfamily, if_neg hg]
    · have hleft := (hslot (number16 s1 s0)).symm.trans hsending
      exact hport.trans (congrArg (fun o : Option Slot => answeredPort (s.port p) rest
        (.verdict f.session f.seq .accepted (.budget (o.bind Slot.budget)))) hleft)
  · subst hmode
    have hx : (s.popped p rest).slot p (number16 s1 s0) = some x := hmay.2.2.2.1
    have hz' : ((s.popped p rest).writeSlot p (number16 s1 s0) { x with budget := x.budget.map (· - 1) }).slot p
        (number16 c1 c0) = some z := by
      rw [State.slot_writeSlot, if_neg (fun k => hcn k.2)]
      exact hz
    obtain ⟨t, ht, htab, hfam, hslots, huse, hdesc, hport⟩ := exec_admission_attached h hexp hl hmay
      (readAttach_move hc0) (State.attachFailure_move_none hcn hz hd hmove hw ho)
      ((congrArg (fun a => State.attachGrant a p _) (State.spend_of 1 hx)).trans (State.attachGrant_move hz')) rfl
    have hcan' : Table.canonical (Bank.get ((s.popped p rest).writeSlot p (number16 s1 s0)
        { x with budget := x.budget.map (· - 1) }).tables p) = true := by
      show Table.canonical (Bank.get (Bank.set s.tables p _) p) = true
      rw [Bank.get_set_self]
      exact Table.canonical_put _ _ _ hcan
    have hslot : ∀ n, t.slot p n = (((s.popped p rest).writeSlot p (number16 s1 s0)
        { x with budget := x.budget.map (· - 1) }).vacateSlot p (number16 c1 c0)).slot p n := fun n => by
      unfold State.slot State.table
      rw [htab]
    have hsending : t.slot p (number16 s1 s0) = some { x with budget := x.budget.map (· - 1) } := by
      rw [hslot, State.slot_vacateSlot _ _ _ _ _ hcan', if_neg (fun k => hcn k.2.symm), State.slot_writeSlot,
        if_pos ⟨rfl, rfl⟩]
    refine ⟨t, ht, ?_, hsending, hfam, hdesc, hslots, huse, ?_⟩
    · rw [hslot, State.slot_vacateSlot _ _ _ _ _ hcan', if_pos ⟨rfl, rfl⟩]
    · have hleft := (hslot (number16 s1 s0)).symm.trans hsending
      exact hport.trans (congrArg (fun o : Option Slot => answeredPort (s.port p) rest
        (.verdict f.session f.seq .accepted (.budget (o.bind Slot.budget)))) hleft)
  · intro left
    have hx : (s.popped p rest).slot p (number16 s1 s0) = some x := hmay.2.2.2.1
    obtain ⟨-, -, hn, hx0, hd, -, -, hy, ho, -⟩ := id hmay
    have hx' : ((s.popped p rest).writeSlot p (number16 s1 s0) { x with budget := x.budget.map (· - 1) }).slot p
        (number16 s1 s0) = some { x with budget := x.budget.map (· - 1) } := by
      rw [State.slot_writeSlot, if_pos ⟨rfl, rfl⟩]
    have hfault := State.attachFailure_share_none (n := number16 s1 s0) (budget := budgetOf b2 b1 b0) hx0 hd hshare hy ho hin
      (fun b hxb => by
        obtain ⟨k, hk, hle⟩ := hbudget b hxb
        exact ⟨k, hk, by rwa [if_pos rfl]⟩)
    obtain ⟨t, ht, htab, hfam, hslots, huse, hdesc, hport⟩ := exec_admission_attached h hexp hl hmay
      (readAttach_share hn hr hr0 hb hb0) hfault
      ((congrArg (fun a => State.attachGrant a p _) (State.spend_of 1 hx)).trans
        (State.attachGrant_share (rightsOf r) (budgetOf b2 b1 b0) hx' hy)) rfl
    have hleft : (x.budget.map (· - 1)).map (· - (budgetOf b2 b1 b0).getD 0) = left := by
      rw [Option.map_map]
      rfl
    have hslot : t.slot p (number16 s1 s0) = some { x with budget := left } := by
      have hwritten : t.slot p (number16 s1 s0) = (((s.popped p rest).writeSlot p (number16 s1 s0)
          { x with budget := x.budget.map (· - 1) }).writeSlot p (number16 s1 s0)
          { x with budget := (x.budget.map (· - 1)).map (· - (budgetOf b2 b1 b0).getD 0) }).slot p
          (number16 s1 s0) := by
        unfold State.slot State.table
        rw [htab]
      rw [hwritten, State.slot_writeSlot, if_pos ⟨rfl, rfl⟩, hleft]
    have hfamily : ∀ g, t.family g = if g = x.family then some { y with live := y.live + 1 } else s.family g := fun g => by
      unfold State.family
      rw [hfam]
      exact Table.find_put ..
    refine ⟨t, ht, hslot, ?_, fun g hg => ?_, hdesc, hslots, huse, ?_⟩
    · rw [hfamily, if_pos rfl]
    · rw [hfamily, if_neg hg]
    · have hslotb := hslot
      unfold State.slot State.table at hslotb
      rw [htab] at hslotb
      exact hport.trans (congrArg (fun o : Option Slot => answeredPort (s.port p) rest
        (.verdict f.session f.seq .accepted (.budget (o.bind Slot.budget)))) hslotb)

end Sys2Proof.Proofs
end

section
/-! PROOFS. The steps of a sweep (R127, R128, R136 to R138), and the statements O51 and O52. -/

namespace Sys2Proof.Machine

open Sys2Proof.Claims (ToBeFreed SlotAfter ToldTo sweepEnded sweepFinished NextPurging)

/-! ### Where the cursor goes -/

theorem asStation_succ {t u : StationId} (h : u.val = t.val + 1) : asStation (t.val + 1) = some u := by
  obtain ⟨u, hu⟩ := u
  subst h
  exact dif_pos hu

theorem nextSlot_of_slotAfter {t u : StationId} {n m : Nat} (h : SlotAfter t n u m) : nextSlot t n = some (u, m) := by
  rcases h with ⟨hn, rfl, rfl⟩ | ⟨rfl, hu, rfl⟩
  · exact if_pos hn
  · exact (if_neg (Nat.lt_irrefl _)).trans (congrArg (Option.map (fun u => (u, 1))) (asStation_succ hu))

theorem State.advanceSlot_of_slotAfter {t u : StationId} {n m : Nat} (s : State) (x : Sweep) (h : SlotAfter t n u m) :
    s.advanceSlot x t n = { s with sweep := some { x with cursor := .slotPass u m } } := by
  unfold State.advanceSlot
  rw [nextSlot_of_slotAfter h]

/-- Behind slot (7, 1023) the slot pass is over (R127). -/
theorem State.advanceSlot_last (s : State) (x : Sweep) : s.advanceSlot x 7 1023 = s.leaveSlotPass x := rfl

theorem State.leaveSlotPass_revoke {x : Sweep} {f : Nat} (s : State) (h : x.subject = .revoke f) :
    s.leaveSlotPass x = sweepFinished s x := by
  rw [Claims.sweepFinished_eq, State.leaveSlotPass, h]

theorem State.leaveSlotPass_purge {x : Sweep} {u : StationId} {q : Nat} (s : State) (h : x.subject = .purge u q) :
    s.leaveSlotPass x = { s with sweep := some { x with cursor := .queuePass u q } } := by
  rw [State.leaveSlotPass, h]

theorem State.leaveSlotPass_evict {s : State} {x : Sweep} {u : StationId} {q : Nat} (h : x.subject = .evict u)
    (hq : NextPurging s u 0 q) :
    s.leaveSlotPass x = { s with sweep := some { x with cursor := .queuePass u q } } := by
  rw [State.leaveSlotPass, h]
  dsimp only
  rw [Claims.nextPurging_eq hq]
  rfl

theorem State.leaveQueue_purge {x : Sweep} {u : StationId} {r : Nat} (s : State) (t : StationId) (q : Nat)
    (h : x.subject = .purge u r) : s.leaveQueue x t q = sweepFinished s x := by
  rw [Claims.sweepFinished_eq, State.leaveQueue, h]

theorem State.leaveQueue_next {s : State} {x : Sweep} {u t : StationId} {q r : Nat} (h : x.subject = .evict u)
    (hr : NextPurging s t (q + 1) r) :
    s.leaveQueue x t q = { s with sweep := some { x with cursor := .queuePass t r } } := by
  rw [State.leaveQueue, h]
  dsimp only
  rw [Claims.nextPurging_eq hr]

theorem State.leaveQueue_evicted {s : State} {x : Sweep} {u t : StationId} {q : Nat} (h : x.subject = .evict u)
    (hn : ∀ e ∈ Bank.get s.queues t, q < e.1 → e.2.state ≠ .purging) :
    s.leaveQueue x t q = sweepFinished (Claims.evictDone s u) x := by
  rw [Claims.sweepFinished_eq, State.leaveQueue, h]
  dsimp only
  rw [Claims.noPurging_eq hn]
  rfl

/-! ### The end of a sweep (R138) -/

theorem sweepFinished_untold {s : State} {x : Sweep} (h : ¬ ToldTo s x) : sweepFinished s x = sweepEnded s x :=
  congrArg (sweepEnded · x) (if_neg h)

theorem sweepFinished_told {s : State} {x : Sweep} {q : Queue} (h : ToldTo s x) (hq : s.queue x.requester 0 = some q)
    (hf : s.freeReports ≠ 0) (hm : q.heldMessages < 32) :
    sweepFinished s x =
      sweepEnded
        (Claims.withReport s x.requester q (.sweepComplete x.ticket x.subject x.slotsFreed x.messagesFreed)) x :=
  congrArg (sweepEnded · x) ((if_pos h).trans (Claims.reported_placed _ h.1 hq hf hm))

/-! ### A step of the queue pass while entries remain (R128) -/

theorem State.queueStep_more {s h : State} {x : Sweep} {t : StationId} {q : Nat} {y : Queue} {e : ListEntry}
    {r : List ListEntry} {slots : Nat} (hx : s.sweep = some x) (hc : x.cursor = .queuePass t q)
    (hq : s.queue t q = some y) (hl : y.list = e :: r) (hr : r ≠ [])
    (hw : Claims.Withdrawn (Claims.withQueue s t q { y with list := r }) false e.ref slots h) :
    s.queueStep =
      { h with
        sweep := some { x with slotsFreed := x.slotsFreed + slots, messagesFreed := x.messagesFreed + 1 } } := by
  obtain ⟨hfreed, hslots⟩ := hw.freeEntry
  have hslots : slots = if s.holdsReserved e.ref then 1 else 0 := hslots
  have hfreed : s.sweepEntry t q y e.ref r = h := hfreed
  have hmore : r.isEmpty = false := List.isEmpty_eq_false_iff.2 hr
  have hcount : (if s.holdsReserved e.ref then x.slotsFreed + 1 else x.slotsFreed) = x.slotsFreed + slots := by
    rw [hslots]
    split <;> rfl
  simp only [State.queueStep, hx, hc, hq, hl, hfreed, hmore, hcount, Bool.false_eq_true, if_false]

end Sys2Proof.Machine

namespace Sys2Proof.Proofs

open Sys2Proof.Machine
open Sys2Proof.Claims

/-! ### The slot pass -/

section SlotPass

variable {s h : State} {x x' : Sweep} {t u : StationId} {n m : Nat}

theorem slotPass_moves (hx : s.sweep = some x) (hc : x.cursor = .slotPass t n) (w : SlotReached s x t n h x')
    (ha : SlotAfter t n u m) :
    exec .slotPassStep s = .next { h with sweep := some { x' with cursor := .slotPass u m } } :=
  congrArg Host.Outcome.next ((w.step hx hc).1.trans (h.advanceSlot_of_slotAfter x' ha))

theorem slotPass_leaves (hx : s.sweep = some x) (hc : x.cursor = .slotPass t n) (ht : t = 7) (hn : n = 1023)
    (w : SlotReached s x t n h x') : exec .slotPassStep s = .next (h.leaveSlotPass x') := by
  subst ht
  subst hn
  exact congrArg Host.Outcome.next (w.step hx hc).1

theorem copyEnded_vacated {z f : Nat} {y : Family} (hl : 1 < y.live) :
    copyEnded (slotVacated s t z) f y = slotFreed s t z f y := Claims.copyEnded_of_lt hl

end SlotPass

/-- Settles O51. -/
theorem slotPassStepFreesAndMovesOn : Obligations.SlotPassStepFreesAndMovesOn := by
  intro s x t n hx hc
  refine ⟨fun u m ha => ⟨fun hn => slotPass_moves hx hc (.passed hn) ha, fun z y hz hb hf hl => ⟨fun hd => ?_,
    fun d k g hd hk hg hr => ?_⟩⟩, fun ht hn hk => ?_, fun h x' w => ⟨fun u m ha => slotPass_moves hx hc w ha,
    fun ht hn => ?_⟩⟩
  · have := slotPass_moves hx hc (.defined z y hz hb hf hd) ha
    rwa [copyEnded_vacated hl] at this
  · have := slotPass_moves hx hc (.reserved z y d k g hz hb hf hd hk hg hr) ha
    rwa [copyEnded_vacated hl] at this
  · have hleaves := slotPass_leaves hx hc ht hn (.passed hk)
    refine ⟨fun f hf hto => ?_, fun f q hf hto hq hfree hm => ?_, fun u q hp => ?_, fun u q y he hq hy hlow hcan => ?_⟩
    · rw [hleaves, s.leaveSlotPass_revoke hf, sweepFinished_untold hto]
    · rw [hleaves, s.leaveSlotPass_revoke hf, sweepFinished_told hto hq hfree hm, hf]
    · rw [hleaves, s.leaveSlotPass_purge hp]
    · rw [hleaves, State.leaveSlotPass_evict he ⟨hcan, Nat.zero_le q, ⟨y, hq, hy⟩, fun e hmem _ => hlow e hmem⟩]
  · have hleaves := slotPass_leaves hx hc ht hn w
    have hsubject := (w.step hx hc).2
    refine ⟨fun f hf => ?_, fun u q hp => ?_, fun u q he hq => ?_⟩
    · rw [hleaves, h.leaveSlotPass_revoke (hsubject.trans hf)]
    · rw [hleaves, h.leaveSlotPass_purge (hsubject.trans hp)]
    · rw [hleaves, State.leaveSlotPass_evict (hsubject.trans he) hq]

/-! ### The queue pass -/

/-- Settles O52. -/
theorem queuePassStepFreesTheHead : Obligations.QueuePassStepFreesTheHead := by
  intro s x t q y hx hc hq _ _
  have hlast : ∀ h x', LastFreed s x t q y h x' →
      exec .queuePassStep s = .next ((queueMarked h t q).leaveQueue x' t q) ∧ x'.subject = x.subject := by
    intro h x' w
    obtain ⟨hstep, hsubject⟩ := w.step hx hc hq
    exact ⟨(congrArg Host.Outcome.next hstep).trans (by rw [queueMarked_eq]), hsubject⟩
  refine ⟨fun e r slots h hl hr hw => congrArg Host.Outcome.next (State.queueStep_more hx hc hq hl hr hw),
    fun e r d m hl hr hd hm hg => ?_, fun hl hp => ?_, fun h x' w => ?_⟩
  · have hw : Withdrawn (withQueue s t q { y with list := r }) false e.ref 0
        (messageReleased (withQueue s t q { y with list := r }) d m false) := by
      rw [hd]
      exact .plain d m hm hg
    exact congrArg Host.Outcome.next (State.queueStep_more hx hc hq hl hr hw)
  · obtain ⟨hstep, _⟩ := hlast s x (.empty hl)
    have hmark : queueMarked s t q = settled s t q { y with passComplete := true } := by
      rw [queueMarked, hq]
    rw [hstep, State.leaveQueue_purge _ _ _ hp, hmark]
  · obtain ⟨hstep, hsubject⟩ := hlast h x' w
    refine ⟨fun hp => ?_, fun he => ⟨fun r hr => ?_, fun hn => ?_⟩⟩
    · rw [hstep, State.leaveQueue_purge _ _ _ (hsubject.trans hp)]
    · rw [hstep, State.leaveQueue_next (hsubject.trans he) hr]
    · rw [hstep, State.leaveQueue_evicted (hsubject.trans he) hn]

end Sys2Proof.Proofs
end

section
/-! PROOFS. A selection by band 0 and the transmission of its entry (R86, R87, R102 to R108), and the statements O46 and
O47. -/

namespace Sys2Proof.Machine

open Sys2Proof.Claims (selectedWindow sessionOf messageFrame reportFrame sectionOf withPort copyEnded)

theorem Table.put_put {α : Type} (t : Table α) (k : Nat) (x y : α) :
    Table.put (Table.put t k x) k y = Table.put t k y := by
  induction t with
  | nil => simp [Table.put]
  | cons e r ih =>
    obtain ⟨a, z⟩ := e
    by_cases h : k < a
    · simp [Table.put, h]
    · by_cases h' : k = a
      · simp [Table.put, h']
      · simp [Table.put, h, h', ih]

theorem State.lowerLive_descriptors (s : State) (f : Nat) : (s.lowerLive f).descriptors = s.descriptors := by
  unfold State.lowerLive
  cases s.family f with
  | none => rfl
  | some y =>
    dsimp only
    split
    · exact s.closeFamily_descriptors f y
    · rfl

/-! ### The transmission of an entry -/

/-- A transmission by its parts: the grant resolved in state b, and the frame built there (R102 to R108). -/
theorem State.transmit_of {s b : State} {p : PortId} {e : EntryRef} {f : DeliveryFrame}
    (hresolved : (s.giveSeq e (s.window p).nextSeq).resolveGrant p e = b)
    (hframe : b.buildDelivery (sessionOf (s.port p)) e = some f) :
    s.transmit p e =
      withPort (b.markRepeated e) p { s.port p with window := selectedWindow (s.port p).window e [f] } := by
  have hports : (b.markRepeated e).ports = s.ports := by
    rw [State.markRepeated_ports, ← hresolved, State.resolveGrant_ports, State.giveSeq_ports]
  have hbport : b.port p = s.port p := by
    rw [← hresolved]
    exact State.port_of_ports (by rw [State.resolveGrant_ports, State.giveSeq_ports]) p
  have hbuilt : b.buildDelivery (b.port p).sessionNumber e = some f := by
    rw [hbport]
    exact hframe
  have hport : (b.markRepeated e).port p = s.port p := State.port_of_ports hports p
  unfold State.transmit
  dsimp only
  rw [hresolved, hbuilt]
  unfold State.setWindow
  rw [hport]
  unfold selectedWindow State.window
  cases (s.port p).window.outstanding <;> rfl

/-- State s in which message d, whose record is m, has delivery sequence n (R102). -/
def State.sequenced (s : State) (d : Nat) (m : Descriptor) (n : SeqNum) : State :=
  s.setDescriptor d { m with seq := some n }

@[simp] theorem State.sequenced_descriptor (s : State) (d : Nat) (m : Descriptor) (n : SeqNum) :
    (s.sequenced d m n).descriptor d = some { m with seq := some n } := Table.find_put_self ..

section Message

variable {s : State} {p : PortId} {d : Nat} {m : Descriptor}

/-- The transmission of a message whose resolution leaves state b, its descriptor k there (R102 to R106). -/
theorem State.transmit_message {b : State} {k : Descriptor} {o : Option GrantSection} (hd : s.descriptor d = some m)
    (hresolved : (s.sequenced d m (s.port p).window.nextSeq).resolveGrant p (.message d) = b)
    (hk : b.descriptor d = some k) (hseq : k.seq = some (s.port p).window.nextSeq)
    (ho : k.grant.bind (sectionOf b) = o) :
    s.transmit p (.message d) =
      { withPort b p
          { s.port p with
            window := selectedWindow (s.port p).window (.message d)
              [messageFrame (sessionOf (s.port p)) (s.port p).window.nextSeq k o] } with
        descriptors := Table.put b.descriptors d { k with repeated := true } } := by
  have hgive : s.giveSeq (.message d) (s.window p).nextSeq = s.sequenced d m (s.port p).window.nextSeq := by
    rw [State.giveSeq, hd]
    rfl
  have hframe : b.buildDelivery (sessionOf (s.port p)) (.message d) =
      some (messageFrame (sessionOf (s.port p)) (s.port p).window.nextSeq k o) := by
    rw [State.buildDelivery_eq, Claims.frameOf, hk, Option.bind_some, hseq, Option.map_some, ho]
  rw [State.transmit_of (by rw [hgive]; exact hresolved) hframe, State.markRepeated, hk]
  rfl

/-- A message whose grant is not resolved: it has none, or it is transmitted again (R104). -/
theorem State.transmit_unresolved (hd : s.descriptor d = some m)
    (h : ∀ g, m.grant = some g → m.repeated = true) :
    s.transmit p (.message d) =
      { withPort s p
          { s.port p with
            window := selectedWindow (s.port p).window (.message d)
              [messageFrame (sessionOf (s.port p)) (s.port p).window.nextSeq m (m.grant.bind (sectionOf s))] } with
        descriptors := Table.put s.descriptors d
          { m with seq := some (s.port p).window.nextSeq, repeated := true } } := by
  have hresolved : (s.sequenced d m (s.port p).window.nextSeq).resolveGrant p (.message d) =
      s.sequenced d m (s.port p).window.nextSeq := by
    rw [State.resolveGrant, State.sequenced_descriptor]
    dsimp only
    cases hg : m.grant with
    | none => rfl
    | some g => simp [h g hg]
  rw [State.transmit_message hd hresolved (State.sequenced_descriptor ..) rfl rfl]
  dsimp only [State.sequenced, State.setDescriptor]
  rw [Table.put_put]
  rfl

variable {g : CarriedGrant}

/-- The claim for a slot reads nothing of the descriptors (R21). -/
theorem State.reserve_withDescriptors (s : State) (l : Table Descriptor) (t : StationId) (d : Nat) (g : CarriedGrant) :
    State.reserve { s with descriptors := l } t d g =
      ({ (s.reserve t d g).1 with descriptors := l }, (s.reserve t d g).2) := by
  have hopen : State.familyOpen { s with descriptors := l } g.family = s.familyOpen g.family := rfl
  have hroom : (State.belowGrantLimit { s with descriptors := l } t && State.storeHasRoom { s with descriptors := l }) =
      (s.belowGrantLimit t && s.storeHasRoom) := rfl
  unfold State.reserve
  rw [hopen, hroom]
  split
  · rfl
  · split <;> rfl

/-- A first transmission whose grant takes a slot (R21, R105). -/
theorem State.resolveGrant_reserved {n : Nat} {z : Slot} (hd : s.descriptor d = some m) (hg : m.grant = some g)
    (hr : m.repeated = false) (hst : g.state = .inTransit)
    (hclaim : s.reserve p d g = (s.takeSlot p n z, .reserved n)) :
    s.resolveGrant p (.message d) =
      (s.takeSlot p n z).setDescriptor d { m with grant := some { g with state := .reserved n } } := by
  simp [State.resolveGrant, hd, hg, hr, hst, hclaim]

/-- A first transmission whose grant becomes VOID: it leaves the live count (R21, R105). -/
theorem State.resolveGrant_voided {reason : VoidReason} {y : Family} (hd : s.descriptor d = some m)
    (hg : m.grant = some g) (hr : m.repeated = false) (hst : g.state = .inTransit) (hy : s.family g.family = some y)
    (hclaim : s.reserve p d g = (s, .void reason)) :
    s.resolveGrant p (.message d) =
      (copyEnded s g.family y).setDescriptor d { m with grant := some { g with state := .void reason } } := by
  have hlower : s.resolveGrant p (.message d) =
      (s.setDescriptor d { m with grant := some { g with state := .void reason } }).lowerLive g.family := by
    simp [State.resolveGrant, hd, hg, hr, hst, hclaim]
  rw [hlower, Claims.copyEnded_eq s g.family y hy]
  unfold State.setDescriptor
  rw [State.lowerLive_withDescriptors, State.lowerLive_descriptors]

/-- A grant that takes a slot is shown PENDING (R105, R106). -/
theorem State.transmit_reserved {n : Nat} {y : Family} {z : Slot} (hd : s.descriptor d = some m)
    (hg : m.grant = some g) (hr : m.repeated = false) (hst : g.state = .inTransit) (hy : s.family g.family = some y)
    (hclaim : s.reserve p d g = (s.takeSlot p n z, .reserved n)) :
    s.transmit p (.message d) =
      { withPort (s.takeSlot p n z) p
          { s.port p with
            window := selectedWindow (s.port p).window (.message d)
              [messageFrame (sessionOf (s.port p)) (s.port p).window.nextSeq m
                (some (.pending n g.rights g.budget y.tag))] } with
        descriptors := Table.put s.descriptors d
          { m with
            seq := some (s.port p).window.nextSeq, repeated := true
            grant := some { g with state := .reserved n } } } := by
  have hclaim' : (s.sequenced d m (s.port p).window.nextSeq).reserve p d g =
      ((s.sequenced d m (s.port p).window.nextSeq).takeSlot p n z, .reserved n) := by
    unfold State.sequenced State.setDescriptor
    rw [State.reserve_withDescriptors, hclaim]
    rfl
  have hshown : ∀ b : State, b.families = s.families →
      sectionOf b { g with state := .reserved n } = some (.pending n g.rights g.budget y.tag) := by
    intro b hb
    have hfamily : b.family g.family = some y := (congrArg (Table.find · g.family) hb).trans hy
    simp only [sectionOf, hfamily, Option.map_some, Option.getD_some]
  rw [State.transmit_message hd (State.resolveGrant_reserved (State.sequenced_descriptor ..) hg hr hst hclaim')
    (Table.find_put_self ..) rfl (hshown _ rfl)]
  dsimp only [State.sequenced, State.setDescriptor, State.takeSlot, State.writeSlot]
  rw [Table.put_put, Table.put_put]
  rfl

/-- A grant that becomes VOID leaves the live count of its family (R105). -/
theorem State.transmit_voided {reason : VoidReason} {y : Family} {o : GrantSection} (hd : s.descriptor d = some m)
    (hg : m.grant = some g) (hr : m.repeated = false) (hst : g.state = .inTransit) (hy : s.family g.family = some y)
    (hclaim : s.reserve p d g = (s, .void reason))
    (ho : ∀ b, sectionOf b { g with state := .void reason } = some o) :
    s.transmit p (.message d) =
      { withPort (copyEnded s g.family y) p
          { s.port p with
            window := selectedWindow (s.port p).window (.message d)
              [messageFrame (sessionOf (s.port p)) (s.port p).window.nextSeq m (some o)] } with
        descriptors := Table.put s.descriptors d
          { m with
            seq := some (s.port p).window.nextSeq, repeated := true
            grant := some { g with state := .void reason } } } := by
  have hclaim' : (s.sequenced d m (s.port p).window.nextSeq).reserve p d g =
      (s.sequenced d m (s.port p).window.nextSeq, .void reason) := by
    unfold State.sequenced State.setDescriptor
    rw [State.reserve_withDescriptors, hclaim]
  have hended : copyEnded (s.sequenced d m (s.port p).window.nextSeq) g.family y =
      (copyEnded s g.family y).setDescriptor d { m with seq := some (s.port p).window.nextSeq } := by
    rw [Claims.copyEnded_eq s g.family y hy, Claims.copyEnded_eq (s.sequenced ..) g.family y hy]
    unfold State.sequenced State.setDescriptor
    rw [State.lowerLive_withDescriptors, State.lowerLive_descriptors]
  have hkept : (copyEnded s g.family y).descriptors = s.descriptors := by
    rw [Claims.copyEnded_eq s g.family y hy, State.lowerLive_descriptors]
  rw [State.transmit_message hd (State.resolveGrant_voided (State.sequenced_descriptor ..) hg hr hst hy hclaim')
    (Table.find_put_self ..) rfl (ho _), hended]
  dsimp only [State.setDescriptor]
  rw [hkept, Table.put_put, Table.put_put]
  rfl

end Message

theorem State.transmit_report {s : State} {p : PortId} {k : Nat} {m : ReportRecord} (hk : s.report k = some m) :
    s.transmit p (.report k) =
      { withPort s p
          { s.port p with
            window := selectedWindow (s.port p).window (.report k)
              [reportFrame (sessionOf (s.port p)) (s.port p).window.nextSeq m] } with
        reports := Table.put s.reports k { m with seq := some (s.port p).window.nextSeq, repeated := true } } := by
  have hgive : s.giveSeq (.report k) (s.window p).nextSeq =
      { s with reports := Table.put s.reports k { m with seq := some (s.port p).window.nextSeq } } := by
    rw [State.giveSeq, hk]
    rfl
  have hfind : ({ s with reports := Table.put s.reports k { m with seq := some (s.port p).window.nextSeq } } :
      State).report k = some { m with seq := some (s.port p).window.nextSeq } := Table.find_put_self ..
  have hframe : ({ s with reports := Table.put s.reports k { m with seq := some (s.port p).window.nextSeq } } :
      State).buildDelivery (sessionOf (s.port p)) (.report k) =
      some (reportFrame (sessionOf (s.port p)) (s.port p).window.nextSeq m) := by
    rw [State.buildDelivery_eq, Claims.frameOf, hfind]
    rfl
  rw [State.transmit_of (by rw [hgive, State.resolveGrant]) hframe, State.markRepeated, hfind]
  dsimp only [State.setReport]
  rw [Table.put_put]
  rfl

/-! ### The claim for a slot (R21) -/

section Claim

variable {s : State} {p : StationId} {d : Nat} {g : CarriedGrant} {y : Family}

theorem State.reserve_taken (hy : s.family g.family = some y) (ho : y.state = .opened)
    (hlimit : Bank.get s.slotsInUse p < (s.station p).grantLimit) (hstore : s.storeUse < 4096) :
    s.reserve p d g =
      (s.takeSlot p (s.lowestFreeSlot p) ⟨.reserved d, g.family, g.rights, g.budget⟩,
        .reserved (s.lowestFreeSlot p)) := by
  have hopen : s.familyOpen g.family = true := (State.familyOpen_iff hy).2 ho
  have hroom : (s.belowGrantLimit p && s.storeHasRoom) = true :=
    Bool.and_eq_true_iff.2 ⟨decide_eq_true hlimit, decide_eq_true (show s.storeUse < Config.storeCapacity from hstore)⟩
  simp only [State.reserve, hopen, hroom, Bool.not_true, Bool.false_eq_true, if_false]

theorem State.reserve_noRoom (hy : s.family g.family = some y) (ho : y.state = .opened)
    (hno : ¬ (Bank.get s.slotsInUse p < (s.station p).grantLimit ∧ s.storeUse < 4096)) :
    s.reserve p d g = (s, .void .noRoom) := by
  have hopen : s.familyOpen g.family = true := (State.familyOpen_iff hy).2 ho
  have hroom : (s.belowGrantLimit p && s.storeHasRoom) = false := by
    refine Bool.eq_false_iff.2 fun k => hno ?_
    obtain ⟨hlimit, hstore⟩ := Bool.and_eq_true_iff.1 k
    exact ⟨of_decide_eq_true hlimit, of_decide_eq_true hstore⟩
  simp only [State.reserve, hopen, hroom, Bool.not_true, Bool.not_false, Bool.false_eq_true, if_false, if_true]

theorem State.reserve_revoked (hy : s.family g.family = some y) (ho : y.state = .revoking) :
    s.reserve p d g = (s, .void .revoked) := by
  have hclosed : s.familyOpen g.family = false := by
    refine Bool.eq_false_iff.2 fun k => ?_
    rw [State.familyOpen_iff hy, ho] at k
    exact nomatch k
  simp only [State.reserve, hclosed, Bool.not_false, if_true]

end Claim

/-! ### The selection that serves band 0 (R86, R87) -/

theorem State.selectionReady_of {s : State} {p : PortId} (h : Claims.SelectionReady s p) :
    s.selectionReady p = true := by
  obtain ⟨henabled, hactive, hroom, hcredit⟩ := h
  have hcapacity : (s.window p).outstanding.length < Config.windowCapacity := hroom
  have hcredit : 1 ≤ (s.window p).credit := hcredit
  simp only [State.selectionReady, (Claims.isEnabled_iff s p).2 henabled, hactive, beq_self_eq_true, hcapacity, hcredit,
    decide_true, Bool.and_self]

/-- State s in which band 0 has served queue q, its entry not yet transmitted (R86, R87). -/
def State.takenStrict (s : State) (p : PortId) (q : Nat) (turn : List Nat) (x : Queue) (r : List ListEntry) : State :=
  Claims.withScheduler (Claims.withQueue s p q (Claims.selectedQueue x r)) p
    (Claims.strictServed (s.scheduler p) q turn (decide (r ≠ [])))

theorem State.select_strict {s : State} {p : PortId} {q : Nat} {turn : List Nat} {x : Queue} {e : ListEntry}
    {r : List ListEntry} (hready : Claims.SelectionReady s p) (hb : (s.scheduler p).active.b0 = q :: turn)
    (hq : s.queue p q = some x) (hl : x.list = e :: r) :
    s.select p = (s.takenStrict p q turn x r).transmit p e.ref := by
  have hturn : (s.scheduler p).rotate .b0 (!r.isEmpty) =
      Claims.strictServed (s.scheduler p) q turn (decide (r ≠ [])) := by
    have hget : (s.scheduler p).active.get .b0 = q :: turn := hb
    rw [Scheduler.rotate, hget]
    cases r <;> rfl
  rw [State.select, if_pos (State.selectionReady_of hready), hb]
  dsimp only
  rw [State.selectStrict, State.takeHead, hq]
  dsimp only
  rw [hl]
  dsimp only
  rw [hturn]
  rfl

end Sys2Proof.Machine

namespace Sys2Proof.Proofs

open Sys2Proof.Machine
open Sys2Proof.Claims

theorem exec_selection_strict {s : State} {p : PortId} {q : Nat} {turn : List Nat} {x : Queue} {e : ListEntry}
    {r : List ListEntry} {t : State} (hready : SelectionReady s p) (hb : (s.scheduler p).active.b0 = q :: turn)
    (hq : s.queue p q = some x) (hl : x.list = e :: r) (ht : (s.takenStrict p q turn x r).transmit p e.ref = t) :
    exec (.selection p) s = .next t :=
  congrArg Host.Outcome.next ((State.select_strict hready hb hq hl).trans ht)

/-- Settles O46. -/
theorem selectionServesBandZeroFirst : Obligations.SelectionServesBandZeroFirst := by
  intro p s q turn x e r hready hb hq hl
  refine ⟨fun d m he hd hg => ?_, fun k m he hk => ?_⟩
  · refine exec_selection_strict hready hb hq hl ?_
    have hsent := State.transmit_unresolved (s := s.takenStrict p q turn x r) (p := p) hd
      (fun g h => absurd (hg.symm.trans h) nofun)
    have hnone : m.grant.bind (sectionOf (s.takenStrict p q turn x r)) = none := by rw [hg, Option.bind_none]
    rw [hnone] at hsent
    rw [he]
    exact hsent
  · refine exec_selection_strict hready hb hq hl ?_
    rw [he]
    exact State.transmit_report (s := s.takenStrict p q turn x r) (p := p) hk

theorem copyEnded_last {s : State} {f : Nat} {y : Family} (h : y.live ≤ 1) :
    copyEnded s f y = familyClosed s f y := if_neg (Nat.not_lt.2 h)

/-- Settles O47. -/
theorem firstTransmissionResolvesTheGrant : Obligations.FirstTransmissionResolvesTheGrant := by
  intro p s q turn x e r d m g y hready hb hq hl he hd hg hy
  have hexec : ∀ {t : State}, (s.takenStrict p q turn x r).transmit p (.message d) = t →
      exec (.selection p) s = .next t := fun ht => exec_selection_strict hready hb hq hl (he ▸ ht)
  rw [he]
  refine ⟨fun hr hst ho hlimit hstore => ?_, fun hr hst ho hlive hno => ?_, fun hr hst ho hlive => ?_,
    fun k hr hst => ?_, fun hr hst => ?_, fun hr hst hlive => ⟨fun ho hno => ?_, fun ho => ?_⟩⟩
  · exact ⟨_, hexec (State.transmit_reserved hd hg hr hst hy (State.reserve_taken hy ho hlimit hstore)),
      rfl, rfl, rfl, rfl, Table.find_put_self .., congrArg PortLink.window (Bank.get_set_self ..)⟩
  · have hsent := hexec
      (State.transmit_voided (o := .noRoom) hd hg hr hst hy (State.reserve_noRoom hy ho hno) fun _ => rfl)
    rw [Claims.copyEnded_of_lt hlive] at hsent
    exact ⟨_, hsent, rfl, rfl, rfl, rfl, Table.find_put_self .., congrArg PortLink.window (Bank.get_set_self ..)⟩
  · have hsent := hexec
      (State.transmit_voided (o := .withdrawn) hd hg hr hst hy (State.reserve_revoked hy ho) fun _ => rfl)
    rw [Claims.copyEnded_of_lt hlive] at hsent
    exact ⟨_, hsent, rfl, rfl, rfl, rfl, Table.find_put_self .., congrArg PortLink.window (Bank.get_set_self ..)⟩
  · have hshown : m.grant.bind (sectionOf (s.takenStrict p q turn x r)) = some (.pending k g.rights g.budget y.tag) := by
      have hfamily : (s.takenStrict p q turn x r).family g.family = some y := hy
      simp only [hg, Option.bind_some, sectionOf, hst, hfamily, Option.map_some, Option.getD_some]
    refine ⟨_, hexec (State.transmit_unresolved hd fun _ _ => hr), ⟨rfl, rfl, rfl, rfl⟩, ?_, ?_⟩
    · refine (Table.find_put_self ..).trans ?_
      rw [hg, ← hst]
      rfl
    · rw [hshown]
      exact congrArg PortLink.window (Bank.get_set_self ..)
  · have hshown : m.grant.bind (sectionOf (s.takenStrict p q turn x r)) = some .withdrawn := by
      simp only [hg, Option.bind_some, sectionOf, hst]
    refine ⟨_, hexec (State.transmit_unresolved hd fun _ _ => hr), ⟨rfl, rfl, rfl, rfl⟩, ?_, ?_⟩
    · refine (Table.find_put_self ..).trans ?_
      rw [hg, ← hst]
      rfl
    · rw [hshown]
      exact congrArg PortLink.window (Bank.get_set_self ..)
  · have hsent := hexec
      (State.transmit_voided (o := .noRoom) hd hg hr hst hy (State.reserve_noRoom hy ho hno) fun _ => rfl)
    rw [copyEnded_last hlive] at hsent
    exact hsent
  · have hsent := hexec
      (State.transmit_voided (o := .withdrawn) hd hg hr hst hy (State.reserve_revoked hy ho) fun _ => rfl)
    rw [copyEnded_last hlive] at hsent
    exact hsent


end Sys2Proof.Proofs
end

section
/-! PROOFS. Deficit round robin: the turns of a selection, that one of them serves, and the statement O48 (R88). -/

namespace Sys2Proof.Machine

open Sys2Proof.Claims (costOf headCostOf arrivedDeficit Passes TurnsPass Serves HeadOf paidScheduler selectedQueue
  SelectionReady)

theorem Table.mem_of_find {α : Type} {t : Table α} {k : Nat} {x : α} (h : Table.find t k = some x) : (k, x) ∈ t := by
  induction t with
  | nil => exact nomatch h
  | cons e r ih =>
    obtain ⟨a, y⟩ := e
    by_cases hk : a = k
    · simp [Table.find, hk] at h
      simp [hk, h]
    · simp [Table.find, hk] at h
      exact List.mem_cons_of_mem _ (ih h)

theorem DrrCounts.set_get (c : DrrCounts) (b : DrrBand) : c.set b (c.get b) = c := by cases b <;> rfl

theorem DrrCounts.set_set (c : DrrCounts) (b : DrrBand) (n k : Nat) : (c.set b n).set b k = c.set b k := by
  cases b <;> rfl

theorem Scheduler.arrived_open {sch : Scheduler} (quanta : DrrCounts) (h : sch.visitOpen = true) :
    sch.arrived quanta = sch := if_pos h

theorem Scheduler.arrived_closed {sch : Scheduler} (quanta : DrrCounts) (h : sch.visitOpen = false) :
    (sch.arrived quanta).deficit.get sch.pointer = sch.deficit.get sch.pointer + quanta.get sch.pointer := by
  have harrived : sch.arrived quanta =
      { sch with
        deficit := sch.deficit.set sch.pointer (sch.deficit.get sch.pointer + quanta.get sch.pointer)
        visitOpen := true } := if_neg (by simp [h])
  rw [harrived]
  exact DrrCounts.get_set_self ..

/-- An arrival changes the deficit of its band alone, and opens the visit (R88 step 2). -/
theorem Scheduler.arrived_eq (sch : Scheduler) (quanta : DrrCounts) :
    sch.arrived quanta =
      { sch with
        deficit := sch.deficit.set sch.pointer ((sch.arrived quanta).deficit.get sch.pointer), visitOpen := true } := by
  unfold Scheduler.arrived
  split
  · rename_i h
    rw [DrrCounts.set_get, ← h]
  · rw [DrrCounts.get_set_self]

/-! ### A turn is served within the selection -/

/-- How many turns it takes until the pointer stands at band b. -/
def DrrBand.turnsTo (a b : DrrBand) : Nat :=
  if a = b then 0 else if a.following = b then 1 else 2

theorem DrrBand.turnsTo_self (b : DrrBand) : b.turnsTo b = 0 := if_pos rfl

theorem DrrBand.turnsTo_following_self (b : DrrBand) : b.following.turnsTo b = 2 := by cases b <;> rfl

theorem DrrBand.turnsTo_following {a b : DrrBand} (h : a ≠ b) : a.turnsTo b = a.following.turnsTo b + 1 := by
  revert h
  cases a <;> cases b <;> decide

/-- Turns after which band b has served, if no band has before it: three for every quantum its deficit still needs, and
three for a visit that is open at the start (R88). -/
def Scheduler.turnsNeeded (sch : Scheduler) (b : DrrBand) : Nat :=
  3 * (6 - sch.deficit.get b) + sch.pointer.turnsTo b + (if sch.visitOpen then 3 else 0) + 1

theorem Scheduler.seek_ne_none {quanta : DrrCounts} {cost : DrrBand → Nat} {b : DrrBand} (hq : 1 ≤ quanta.get b)
    (hc : cost b ≤ 7) :
    ∀ (fuel : Nat) (sch : Scheduler), sch.active.get b.band ≠ [] → sch.turnsNeeded b ≤ fuel →
      Scheduler.seek quanta cost fuel sch ≠ none := by
  intro fuel
  induction fuel with
  | zero => exact fun sch _ h => absurd h (Nat.not_succ_le_zero _)
  | succ n ih =>
    intro sch hb hn
    rw [Scheduler.seek_succ]
    unfold Scheduler.turnsNeeded at hn ih
    split
    · rename_i hempty
      have hne : sch.pointer ≠ b := fun k => hb (k ▸ List.isEmpty_iff.1 hempty)
      have := DrrBand.turnsTo_following hne
      exact ih _ hb (by dsimp only; omega)
    · split
      · exact Option.some_ne_none _
      · rename_i hunpaid
        refine ih _ ((sch.arrived_active quanta).symm ▸ hb) ?_
        dsimp only
        rw [if_neg Bool.false_ne_true]
        by_cases hp : sch.pointer = b
        · subst hp
          rw [DrrBand.turnsTo_self] at hn
          rw [DrrBand.turnsTo_following_self]
          cases hv : sch.visitOpen with
          | true =>
            rw [Scheduler.arrived_open quanta hv] at hunpaid ⊢
            rw [hv, if_pos rfl] at hn
            omega
          | false =>
            rw [Scheduler.arrived_closed quanta hv] at hunpaid ⊢
            rw [hv, if_neg Bool.false_ne_true] at hn
            omega
        · rw [sch.arrived_deficit_ne quanta (Ne.symm hp)]
          have := DrrBand.turnsTo_following hp
          omega

theorem Scheduler.turnsNeeded_le (sch : Scheduler) (b : DrrBand) : sch.turnsNeeded b ≤ seekFuel := by
  have hturns : sch.pointer.turnsTo b ≤ 2 := by
    unfold DrrBand.turnsTo
    split
    · omega
    · split <;> omega
  have hopen : (if sch.visitOpen then 3 else 0) ≤ 3 := by split <;> omega
  unfold Scheduler.turnsNeeded seekFuel
  omega

/-! ### The turns that pass, and the one that serves -/

section Turns

variable {s : State} {p : PortId}

theorem State.entryCost_eq (s : State) (e : EntryRef) : s.entryCost e = costOf s e := by
  cases e with
  | report r => rfl
  | message d =>
    dsimp only [State.entryCost, costOf]
    cases s.descriptor d with
    | none => rfl
    | some m =>
      show max 1 m.cells = if m.cells = 0 then 1 else m.cells
      split <;> omega

/-- The head cost of the first queue of a list. -/
theorem State.headCost_of {sch : Scheduler} {b : Band} {q : Nat} {turn : List Nat} {x : Queue} {e : ListEntry}
    {r : List ListEntry} (hb : sch.active.get b = q :: turn) (hq : s.queue p q = some x) (hl : x.list = e :: r) :
    s.headCost p sch b = costOf s e.ref := by
  simp only [State.headCost, hb, hq, hl, State.entryCost_eq]

/-- A band that has a head cost has a head entry of this cost (R88). -/
theorem Claims.headOf_of_cost {b : DrrBand} {c : Nat} (h : headCostOf s p b = some c) :
    ∃ q turn x e r, HeadOf s p b.band q turn x e r ∧ costOf s e.ref = c := by
  unfold headCostOf at h
  split at h
  · exact nomatch h
  · rename_i q turn hb
    obtain ⟨x, hx, hc⟩ := Option.bind_eq_some_iff.1 h
    obtain ⟨e, he, hc⟩ := Option.map_eq_some_iff.1 hc
    obtain ⟨r, hr⟩ := List.head?_eq_some_iff.1 he
    exact ⟨q, turn, x, e, r, ⟨hb, hx, hr⟩, hc⟩

theorem State.headCost_of_cost {b : DrrBand} {c : Nat} (h : headCostOf s p b = some c) :
    s.headCost p (s.scheduler p) b.band = c := by
  obtain ⟨q, turn, x, e, r, ⟨hb, hq, hl⟩, hc⟩ := Claims.headOf_of_cost h
  exact (State.headCost_of hb hq hl).trans hc

theorem Claims.arrivedDeficit_eq (sch : Scheduler) :
    arrivedDeficit s p sch = (sch.arrived (s.station p).quanta).deficit.get sch.pointer := by
  unfold arrivedDeficit
  cases hv : sch.visitOpen with
  | true =>
    rw [Scheduler.arrived_open _ hv]
    rfl
  | false => exact (Scheduler.arrived_closed _ hv).symm

/-- What a search finds: turns pass, and then the band at the pointer serves (R88 steps 1 to 3). -/
theorem Scheduler.seek_serves
    (hcost : ∀ b : DrrBand, (s.scheduler p).active.get b.band ≠ [] → ∃ c, headCostOf s p b = some c) :
    ∀ (fuel : Nat) (sch : Scheduler) (b : DrrBand) (a : Scheduler), sch.active = (s.scheduler p).active →
      Scheduler.seek (s.station p).quanta (fun b => s.headCost p (s.scheduler p) b.band) fuel sch = some (b, a) →
      ∃ c, TurnsPass s p sch c ∧ Serves s p c ∧ c.active = (s.scheduler p).active ∧ b = c.pointer ∧
        a = c.arrived (s.station p).quanta := by
  intro fuel
  induction fuel with
  | zero => exact fun sch b a _ h => nomatch h
  | succ n ih =>
    intro sch b a hact h
    rw [Scheduler.seek_succ] at h
    split at h
    · rename_i hempty
      obtain ⟨c, hturns, hrest⟩ := ih { sch with pointer := sch.pointer.following } b a hact h
      exact ⟨c, .more _ _ _ (.empty sch (List.isEmpty_iff.1 hempty)) hturns, hrest⟩
    · rename_i hlist
      have hne : (s.scheduler p).active.get sch.pointer.band ≠ [] :=
        fun k => hlist (List.isEmpty_iff.2 (hact ▸ k))
      obtain ⟨cost, hc⟩ := hcost sch.pointer hne
      rw [State.headCost_of_cost hc, ← Claims.arrivedDeficit_eq] at h
      split at h
      · rename_i hpaid
        obtain ⟨rfl, rfl⟩ := Prod.mk.inj (Option.some.inj h)
        exact ⟨sch, .none sch, ⟨cost, hc, hpaid⟩, hact, rfl, rfl⟩
      · rename_i hunpaid
        have hpass : Passes s p sch
            { sch.arrived (s.station p).quanta with visitOpen := false, pointer := sch.pointer.following } := by
          have hunpaid := Passes.unpaid sch cost hc (Nat.lt_of_not_le hunpaid)
          rw [Scheduler.arrived_eq, ← Claims.arrivedDeficit_eq]
          exact hunpaid
        obtain ⟨c, hturns, hrest⟩ := ih _ b a (by dsimp only; rw [Scheduler.arrived_active]; exact hact) h
        exact ⟨c, .more _ _ _ hpass hturns, hrest⟩

/-- The payment of the served band is step 4 of R88. -/
theorem Scheduler.pay_eq {sch : Scheduler} {q : Nat} {turn : List Nat} (hb : sch.active.get sch.pointer.band = q :: turn)
    (quanta : DrrCounts) (stays : Bool) (cost next : Nat) :
    ((sch.arrived quanta).rotate sch.pointer.band stays).pay sch.pointer cost next =
      paidScheduler sch ((sch.arrived quanta).deficit.get sch.pointer - cost) (if stays then turn ++ [q] else turn)
        (some next) := by
  have hget : (sch.arrived quanta).active.get sch.pointer.band = q :: turn := by rw [Scheduler.arrived_active, hb]
  rw [Scheduler.rotate, hget, sch.arrived_eq quanta]
  unfold Scheduler.pay paidScheduler
  dsimp only
  rw [ActiveLists.get_set_self, DrrCounts.get_set_self]
  simp only [DrrCounts.set_set, List.isEmpty_iff, Option.getD_some]

end Turns

/-! ### The transmission that follows -/

/-- No grant that a first transmission can make VOID is the last copy of a family with the report-on-close flag. -/
def State.closesSilently (s : State) : Prop :=
  ∀ e ∈ s.descriptors, ∀ g ∈ e.2.grant, g.state = .inTransit → ∀ y ∈ s.family g.family,
    y.reportOnClose = true → 1 < y.live

/-- The queues and the schedulers of state s stand in state t. -/
def State.sameQueues (s t : State) : Prop := t.queues = s.queues ∧ t.schedulers = s.schedulers

theorem State.lowerLive_sameQueues {s : State} {f : Nat}
    (h : ∀ y, s.family f = some y → y.reportOnClose = true → 1 < y.live) : s.sameQueues (s.lowerLive f) := by
  cases hf : s.family f with
  | none =>
    rw [State.lowerLive, hf]
    exact ⟨rfl, rfl⟩
  | some y =>
    rw [← Claims.copyEnded_eq s f y hf]
    by_cases hl : 1 < y.live
    · rw [Claims.copyEnded_of_lt hl]
      exact ⟨rfl, rfl⟩
    · have hsilent : y.reportOnClose = false := Bool.eq_false_iff.2 fun k => hl (h y hf k)
      have hended : Claims.copyEnded s f y = Claims.familyClosed s f y := if_neg hl
      rw [hended, Claims.familyClosed_silent (Or.inl hsilent)]
      exact ⟨rfl, rfl⟩

theorem State.sameQueues.trans {s t u : State} (h : s.sameQueues t) (k : t.sameQueues u) : s.sameQueues u :=
  ⟨k.1.trans h.1, k.2.trans h.2⟩

theorem State.reserve_kept (s : State) (t : StationId) (d : Nat) (g : CarriedGrant) :
    s.sameQueues (s.reserve t d g).1 ∧ (s.reserve t d g).1.families = s.families := by
  unfold State.reserve
  split
  · exact ⟨⟨rfl, rfl⟩, rfl⟩
  · split <;> exact ⟨⟨rfl, rfl⟩, rfl⟩

theorem State.resolveGrant_sameQueues {s : State} (p : PortId) {d : Nat} {m : Descriptor}
    (hd : s.descriptor d = some m)
    (h : ∀ g, m.grant = some g → g.state = .inTransit → ∀ y, s.family g.family = some y →
      y.reportOnClose = true → 1 < y.live) :
    s.sameQueues (s.resolveGrant p (.message d)) := by
  rw [State.resolveGrant, hd]
  dsimp only
  cases hg : m.grant with
  | none => exact ⟨rfl, rfl⟩
  | some g =>
    dsimp only
    split
    · rename_i hfirst
      obtain ⟨hkept, hfamilies⟩ := s.reserve_kept p d g
      have htransit : g.state = .inTransit := beq_iff_eq.1 (Bool.and_eq_true_iff.1 hfirst).2
      split
      · refine hkept.trans (State.lowerLive_sameQueues
          (s := (s.reserve p d g).1.setDescriptor d _) fun y hy => h g hg htransit y ?_)
        exact (congrArg (Table.find · g.family) hfamilies).symm.trans hy
      · exact hkept
    · exact ⟨rfl, rfl⟩

theorem State.giveSeq_sameQueues (s : State) (e : EntryRef) (n : SeqNum) : s.sameQueues (s.giveSeq e n) := by
  unfold State.giveSeq
  split <;> split <;> exact ⟨rfl, rfl⟩

theorem State.markRepeated_sameQueues (s : State) (e : EntryRef) : s.sameQueues (s.markRepeated e) := by
  unfold State.markRepeated
  split <;> split <;> exact ⟨rfl, rfl⟩

theorem State.transmit_sameQueues {s : State} (p : PortId) (e : EntryRef) (h : s.closesSilently) :
    s.sameQueues (s.transmit p e) := by
  have hresolved : s.sameQueues ((s.giveSeq e (s.window p).nextSeq).resolveGrant p e) := by
    cases e with
    | report k => exact s.giveSeq_sameQueues _ _
    | message d =>
      cases hd : s.descriptor d with
      | none =>
        have hgive : s.giveSeq (.message d) (s.window p).nextSeq = s := by rw [State.giveSeq, hd]
        rw [hgive, State.resolveGrant, hd]
        exact ⟨rfl, rfl⟩
      | some m =>
        have hgive : s.giveSeq (.message d) (s.window p).nextSeq = s.sequenced d m (s.window p).nextSeq := by
          rw [State.giveSeq, hd]
          rfl
        rw [hgive]
        have hsame : s.sameQueues (s.sequenced d m (s.window p).nextSeq) := ⟨rfl, rfl⟩
        exact hsame.trans (State.resolveGrant_sameQueues p (State.sequenced_descriptor ..)
          fun g hg => h _ (Table.mem_of_find hd) g hg)
  exact hresolved.trans (State.markRepeated_sameQueues _ e)

/-- A selection by deficit round robin whose search finds band b (R88). -/
theorem State.select_drr {s : State} {p : PortId} {b : DrrBand} {a : Scheduler} {q : Nat} {turn : List Nat} {x : Queue}
    {e : ListEntry} {r : List ListEntry} (hready : SelectionReady s p) (h0 : (s.scheduler p).active.b0 = [])
    (hseek : Scheduler.seek (s.station p).quanta (fun b => s.headCost p (s.scheduler p) b.band) seekFuel
      (s.scheduler p) = some (b, a))
    (hb : a.active.get b.band = q :: turn) (hq : s.queue p q = some x) (hl : x.list = e :: r) :
    s.select p =
      ((s.setQueue p q (selectedQueue x r)).setScheduler p
        ((a.rotate b.band (!r.isEmpty)).pay b (costOf s e.ref)
          ((s.setQueue p q (selectedQueue x r)).headCost p (a.rotate b.band (!r.isEmpty)) b.band))).transmit p e.ref := by
  rw [← State.entryCost_eq, State.select, if_pos (State.selectionReady_of hready), h0]
  dsimp only
  rw [State.selectDrr, hseek]
  dsimp only
  rw [hb]
  dsimp only
  rw [State.takeHead, hq]
  dsimp only
  rw [hl]
  rfl

end Sys2Proof.Machine

namespace Sys2Proof.Proofs

open Sys2Proof.Machine
open Sys2Proof.Claims

/-- The head cost of the band that was served is that of the entry that now stands at its head (R88 step 4). -/
theorem servedBand_headCost {s : State} {p : PortId} {sch : Scheduler} {b : Band} {q : Nat} {x : Queue}
    {r : List ListEntry} {list : List Nat} (hlist : sch.active.get b = list) :
    let next := (s.setQueue p q (selectedQueue x r)).headCost p sch b
    (∀ q' turn' y e' r', list = q' :: turn' → q' ≠ q → s.queue p q' = some y → y.list = e' :: r' →
      next = costOf s e'.ref) ∧
    (∀ e' r' turn', list = q :: turn' → r = e' :: r' → next = costOf s e'.ref) := by
  refine ⟨fun q' turn' y e' r' hl hne hy he => ?_, fun e' r' turn' hl he => ?_⟩
  · have hkept : (s.setQueue p q (selectedQueue x r)).queue p q' = some y :=
      ((State.queue_setQueue ..).trans (if_neg fun k => hne k.2)).trans hy
    exact State.headCost_of (hlist.trans hl) hkept he
  · exact State.headCost_of (hlist.trans hl) (State.queue_setQueue_self ..) he

/-- What stands after the transmission of an entry taken from queue (p, q). -/
theorem transmitted_reads {s : State} {p : PortId} {q : Nat} {x : Queue} {sch : Scheduler} (e : EntryRef)
    (h : s.closesSilently) :
    let t := ((s.setQueue p q x).setScheduler p sch).transmit p e
    t.queue p q = some x ∧ t.scheduler p = sch ∧
      (t.port p).window.outstanding = (s.port p).window.outstanding ++ [e] ∧
      (t.port p).window.credit = (s.port p).window.credit - 1 ∧
      (t.port p).window.nextSeq = (s.port p).window.nextSeq + 1 := by
  obtain ⟨hqueues, hschedulers⟩ :=
    State.transmit_sameQueues (s := (s.setQueue p q x).setScheduler p sch) p e h
  obtain ⟨frames, hports⟩ := State.transmit_ports ((s.setQueue p q x).setScheduler p sch) p e
  have hport := State.port_of_setPorts hports p
  rw [if_pos rfl] at hport
  refine ⟨?_, ?_, ?_, ?_, ?_⟩
  · exact (congrArg (fun b => Table.find (Bank.get b p) q) hqueues).trans (State.queue_setQueue_self ..)
  · exact (congrArg (Bank.get · p) hschedulers).trans (Bank.get_set_self ..)
  all_goals
    rw [hport]
    rfl

/-- Settles O48. -/
theorem selectionByDeficitRoundRobin : Obligations.SelectionByDeficitRoundRobin := by
  intro p s hready h0 hsome hbands _ hsilent
  have hcost : ∀ b : DrrBand, (s.scheduler p).active.get b.band ≠ [] → ∃ c, headCostOf s p b = some c :=
    fun b hb => ((hbands b).2 hb).imp fun _ h => h.1
  obtain ⟨b, hb⟩ := hsome
  obtain ⟨cost, hc, hle⟩ := (hbands b).2 hb
  have hfound := Scheduler.seek_ne_none (cost := fun b => s.headCost p (s.scheduler p) b.band) (hbands b).1
    ((State.headCost_of_cost hc).le.trans hle) seekFuel (s.scheduler p) hb (Scheduler.turnsNeeded_le _ b)
  obtain ⟨⟨c, a⟩, hseek⟩ := Option.ne_none_iff_exists'.1 hfound
  obtain ⟨sch, hturns, hserves, hact, rfl, rfl⟩ := Scheduler.seek_serves hcost seekFuel _ _ _ rfl hseek
  obtain ⟨cost', hc', -⟩ := id hserves
  obtain ⟨q, turn, x, e, r, hhead, -⟩ := Claims.headOf_of_cost hc'
  obtain ⟨hlist, hq, hl⟩ := id hhead
  rw [← hact] at hlist
  have harrived : (sch.arrived (s.station p).quanta).active.get sch.pointer.band = q :: turn := by
    rw [Scheduler.arrived_active, hlist]
  have hstays : (if (!r.isEmpty) = true then turn ++ [q] else turn) = if r = [] then turn else turn ++ [q] := by
    cases r <;> rfl
  have hselect := State.select_drr hready h0 hseek harrived hq hl
  rw [Scheduler.pay_eq hlist, hstays, ← Claims.arrivedDeficit_eq] at hselect
  have hturned : ((sch.arrived (s.station p).quanta).rotate sch.pointer.band (!r.isEmpty)).active.get
      sch.pointer.band = if r = [] then turn else turn ++ [q] := by
    rw [Scheduler.rotate, harrived]
    exact (ActiveLists.get_set_self ..).trans hstays
  obtain ⟨hother, hsame⟩ := servedBand_headCost (s := s) (p := p) (q := q) (x := x) (r := r) hturned
  obtain ⟨hqueue, hscheduler, houtstanding, hcredit, hseq⟩ := transmitted_reads (q := q) (x := selectedQueue x r)
    (sch := paidScheduler sch (arrivedDeficit s p sch - costOf s e.ref) (if r = [] then turn else turn ++ [q]) _)
    (p := p) e.ref hsilent
  exact ⟨sch, q, turn, x, e, r, _, hturns, hserves, hhead, congrArg Host.Outcome.next hselect, hqueue, houtstanding,
    hcredit, hseq, some _, hscheduler, fun q' turn' y e' r' hl' hne hy he =>
      congrArg some (hother q' turn' y e' r' hl' hne hy he),
    fun e' r' hturn he => congrArg some (hsame e' r' [] (by rw [he, hturn]; rfl) he)⟩

end Sys2Proof.Proofs
end

section
/-! PROOFS. The fencing that calls for its reports (R169, R170), the return of deliveries at a session end (R39, R115), and
the statements O15 and O11. -/

namespace Sys2Proof.Machine

open Sys2Proof.Claims (Manager ProtocolFence RetryFence withPort fenceReported GrantsKept joinedIfEmpty seqCleared)

/-! ### A session end and a fencing by their parts -/

/-- The end of the session of a port x: the deliveries go back, and the port is cleared (R115, R161). -/
theorem State.endSession_setPort (s : State) (p : PortId) (x : PortLink) :
    (s.setPort p x).endSession p = withPort (s.handBack [] x.window.outstanding) p x.withoutSession := by
  have hwindow : (s.setPort p x).window p = x.window := congrArg PortLink.window (State.port_setPort_self ..)
  have hback : (s.setPort p x).handBack [] x.window.outstanding =
      (s.handBack [] x.window.outstanding).setPort p x := by
    unfold State.setPort
    rw [State.handBack_withPorts, State.handBack_ports]
  unfold State.endSession
  dsimp only
  rw [hwindow, hback, State.port_setPort_self]
  unfold State.setPort withPort
  rw [Bank.set_set]

theorem State.setPort_port (s : State) (p : PortId) : s.setPort p (s.port p) = s := by
  unfold State.setPort State.port
  rw [Bank.set_get_self]

theorem State.endSession_eq (s : State) (p : PortId) :
    s.endSession p = withPort (s.handBack [] (s.port p).window.outstanding) p (s.port p).withoutSession := by
  have h := s.endSession_setPort p (s.port p)
  rwa [s.setPort_port p] at h

/-- A fencing: the session ends, the port takes its state and cause, and the reports are called for (R170). -/
theorem State.fence_setPort (s : State) (p : PortId) (x : PortLink) (c : FenceCause) :
    (s.setPort p x).fence p c =
      fenceReported (withPort (s.handBack [] x.window.outstanding) p (x.fenced c)) p c := by
  rw [Claims.fenceReported_eq]
  unfold State.fence
  dsimp only
  rw [s.endSession_setPort p x]
  have hport : (withPort (s.handBack [] x.window.outstanding) p x.withoutSession).port p = x.withoutSession :=
    Bank.get_set_self ..
  rw [hport]
  unfold State.setPort withPort
  dsimp only
  rw [Bank.set_set]
  rfl

theorem State.fence_eq (s : State) (p : PortId) (c : FenceCause) :
    s.fence p c =
      fenceReported (withPort (s.handBack [] (s.port p).window.outstanding) p ((s.port p).fenced c)) p c := by
  have h := s.fence_setPort p (s.port p) c
  rwa [s.setPort_port p] at h

theorem State.arriveUnreadable_fences {s : State} {p : PortId} (h : (s.port p).state = .active)
    (hl : (s.port p).protocolErrors + 1 = (s.port p).protocolLimit) :
    s.arriveUnreadable p =
      fenceReported
        (withPort (s.handBack [] (s.port p).window.outstanding) p
          ({ s.port p with protocolErrors := (s.port p).protocolLimit }.fenced .protocol)) p .protocol := by
  rw [State.arriveUnreadable_eq, State.protocolError_fences h hl, State.fence_setPort]

/-! ### The reports of a fencing -/

theorem Claims.fenceReported_nobody {s : State} {p : PortId} (c : FenceCause) (h : ∀ v, v ≠ p → ¬ Manager s v) :
    fenceReported s p c = s := by
  have hnobody : (List.finRange 8).filter (fun u => decide (Manager s u ∧ u ≠ p)) = [] :=
    List.filter_eq_nil_iff.2 fun v _ k => h v (of_decide_eq_true k).2 (of_decide_eq_true k).1
  unfold fenceReported
  rw [hnobody]
  rfl

theorem filter_finRange_eq_self : ∀ u : Fin 8, (List.finRange 8).filter (fun v => decide (v = u)) = [u] := by decide

theorem Claims.fenceReported_one {s : State} {p u : PortId} (c : FenceCause) (hne : u ≠ p) (hu : Manager s u)
    (h : ∀ v, v ≠ p → v ≠ u → ¬ Manager s v) :
    fenceReported s p c = Claims.reported s u (.portFenced p c) := by
  have hone : ∀ v, (Manager s v ∧ v ≠ p) ↔ v = u := fun v =>
    ⟨fun k => Decidable.byContradiction fun hv => h v k.2 hv k.1, fun k => k ▸ ⟨hu, hne⟩⟩
  have hrecipients : (List.finRange 8).filter (fun v => decide (Manager s v ∧ v ≠ p)) = [u] := by
    simp only [hone]
    exact filter_finRange_eq_self u
  unfold fenceReported
  rw [hrecipients]
  rfl

/-! ### The return of the deliveries of one queue (R39, R115) -/

section Return

variable {s t : State} {u : StationId} {q : Nat} {x : Queue} {done : List EntryRef} {e : EntryRef}

/-- Of two states, the second has the records of the first, without the delivery sequences of the entries in `done`. -/
def State.unsequenced (s t : State) (done : List EntryRef) : Prop :=
  (∀ d, t.descriptor d = (s.descriptor d).map (fun y => if .message d ∈ done then { y with seq := none } else y)) ∧
  ∀ r, t.report r = (s.report r).map (fun y => if .report r ∈ done then { y with seq := none } else y)

/-- Everything else that a return of deliveries keeps. -/
def State.keptByReturn (s t : State) : Prop :=
  GrantsKept s t ∧ t.freeDescriptors = s.freeDescriptors ∧ t.freeCells = s.freeCells ∧ t.freeReports = s.freeReports ∧
    t.heldCells = s.heldCells ∧ t.rqsInUse = s.rqsInUse ∧ t.stations = s.stations

/-- Queue x after the deliveries in `done` have returned to it, oldest first (R39). -/
def Queue.returned (x : Queue) (done : List EntryRef) : Queue :=
  { x with
    list := done.map (fun e => ⟨e, .returned⟩) ++ x.list
    outstanding := x.outstanding - done.length }

/-- State t is state s after the deliveries in `done` have returned to queue (u, q), whose record was x. -/
structure State.ReturnedTo (s t : State) (u : StationId) (q : Nat) (x : Queue) (done : List EntryRef) : Prop where
  kept : s.keptByReturn t
  records : s.unsequenced t done
  queue : t.queue u q = some (x.returned done)
  others : ∀ v r, (v, r) ≠ (u, q) → t.queue v r = s.queue v r
  schedulers : t.schedulers = if done = [] then s.schedulers else joinedIfEmpty s u q x

theorem State.ReturnedTo.refl (hq : s.queue u q = some x) : s.ReturnedTo s u q x [] where
  kept := ⟨⟨rfl, rfl, rfl, rfl⟩, rfl, rfl, rfl, rfl, rfl, rfl⟩
  records := ⟨fun d => by simp, fun r => by simp⟩
  queue := hq
  others _ _ _ := rfl
  schedulers := rfl

theorem Claims.seqCleared_descriptor (t : State) (e : EntryRef) (d : Nat) :
    (seqCleared t e).descriptor d =
      (t.descriptor d).map (fun y => if .message d = e then { y with seq := none } else y) := by
  cases e with
  | report r =>
    have hkept : (seqCleared t (.report r)).descriptor d = t.descriptor d := by
      dsimp only [seqCleared]
      split <;> rfl
    simp [hkept]
  | message k =>
    dsimp only [seqCleared]
    by_cases hk : d = k
    · subst hk
      cases hd : t.descriptor d with
      | none => simp [hd]
      | some m => simp [State.descriptor]
    · cases hd : t.descriptor k with
      | none => simp [hk]
      | some m => simp [State.descriptor, Table.find_put_ne _ _ hk, hk]

theorem Claims.seqCleared_report (t : State) (e : EntryRef) (r : Nat) :
    (seqCleared t e).report r = (t.report r).map (fun y => if .report r = e then { y with seq := none } else y) := by
  cases e with
  | message d =>
    have hkept : (seqCleared t (.message d)).report r = t.report r := by
      dsimp only [seqCleared]
      split <;> rfl
    simp [hkept]
  | report k =>
    dsimp only [seqCleared]
    by_cases hk : r = k
    · subst hk
      cases hr : t.report r with
      | none => simp [hr]
      | some m => simp [State.report]
    · cases hr : t.report k with
      | none => simp [hk]
      | some m => simp [State.report, Table.find_put_ne _ _ hk, hk]

/-- A change that is made at most once, for either of two reasons. -/
theorem ite_ite_of_idem {α : Type} {f : α → α} (hf : ∀ y, f (f y) = f y) (a b : Prop) [Decidable a] [Decidable b] (y : α) :
    (if b then f (if a then f y else y) else (if a then f y else y)) = if a ∨ b then f y else y := by
  by_cases ha : a <;> by_cases hb : b <;> simp [ha, hb, hf]

theorem State.unsequenced.seqCleared (h : s.unsequenced t done) (e : EntryRef) :
    s.unsequenced (seqCleared t e) (done ++ [e]) := by
  obtain ⟨hdescriptors, hreports⟩ := h
  refine ⟨fun d => ?_, fun r => ?_⟩
  · rw [Claims.seqCleared_descriptor, hdescriptors, Option.map_map]
    refine Option.map_congr fun y _ => ?_
    refine (ite_ite_of_idem (f := fun y : Descriptor => { y with seq := none }) (fun _ => rfl) _ _ y).trans ?_
    simp only [List.mem_append, List.mem_singleton]
  · rw [Claims.seqCleared_report, hreports, Option.map_map]
    refine Option.map_congr fun y _ => ?_
    refine (ite_ite_of_idem (f := fun y : ReportRecord => { y with seq := none }) (fun _ => rfl) _ _ y).trans ?_
    simp only [List.mem_append, List.mem_singleton]

theorem Claims.seqCleared_kept (t : State) (e : EntryRef) : t.keptByReturn (seqCleared t e) := by
  cases e <;> dsimp only [seqCleared] <;> split <;> exact ⟨⟨rfl, rfl, rfl, rfl⟩, rfl, rfl, rfl, rfl, rfl, rfl⟩

theorem State.keptByReturn.trans {a : State} (h : s.keptByReturn t) (k : t.keptByReturn a) : s.keptByReturn a := by
  obtain ⟨⟨h1, h2, h3, h4⟩, h5, h6, h7, h8, h9, h10⟩ := h
  obtain ⟨⟨k1, k2, k3, k4⟩, k5, k6, k7, k8, k9, k10⟩ := k
  exact ⟨⟨k1.trans h1, k2.trans h2, k3.trans h3, k4.trans h4⟩, k5.trans h5, k6.trans h6, k7.trans h7, k8.trans h8,
    k9.trans h9, k10.trans h10⟩

theorem State.entryQueue_of_unsequenced (h : s.unsequenced t done) (e : EntryRef) :
    t.entryQueue e = s.entryQueue e := by
  obtain ⟨hdescriptors, hreports⟩ := h
  cases e with
  | message d =>
    unfold State.entryQueue
    dsimp only
    rw [hdescriptors d, Option.map_map]
    congr 1
    funext y
    dsimp only [Function.comp]
    split <;> rfl
  | report r =>
    unfold State.entryQueue
    dsimp only
    rw [hreports r, Option.map_map]
    congr 1
    funext y
    dsimp only [Function.comp]
    split <;> rfl

/-- Behind the deliveries that returned before it, one more stands where `x.returned` puts it (R39). -/
theorem Queue.returned_append (x : Queue) (done : List EntryRef) (e : EntryRef) :
    { x.returned done with
      list := (x.returned done).list.take done.length ++ ⟨e, .returned⟩ :: (x.returned done).list.drop done.length
      outstanding := (x.returned done).outstanding - 1 } = x.returned (done ++ [e]) := by
  have hlength : done.length = (done.map (fun e => (⟨e, .returned⟩ : ListEntry))).length := (List.length_map ..).symm
  have hlist : (x.returned done).list.take done.length ++ ⟨e, .returned⟩ :: (x.returned done).list.drop done.length =
      (x.returned (done ++ [e])).list := by
    dsimp only [Queue.returned]
    rw [hlength, List.take_left, List.drop_left, List.map_append, List.append_assoc]
    rfl
  have hout : (x.returned done).outstanding - 1 = (x.returned (done ++ [e])).outstanding := by
    dsimp only [Queue.returned]
    rw [List.length_append, Nat.sub_sub]
    rfl
  rw [hlist, hout]
  rfl

/-- The queue joins its active list with the first delivery that returns to it, if it was empty (R84). -/
theorem joinedIfEmpty_returned (h : t.schedulers = if done = [] then s.schedulers else joinedIfEmpty s u q x) :
    joinedIfEmpty t u q (x.returned done) = joinedIfEmpty s u q x := by
  cases done with
  | nil =>
    have hreturned : x.returned [] = x := rfl
    have hsame : t.schedulers = s.schedulers := h
    unfold joinedIfEmpty State.scheduler
    rw [hreturned, hsame]
  | cons c r =>
    have hnonempty : (x.returned (c :: r)).list ≠ [] := List.cons_ne_nil _ _
    exact (if_neg hnonempty).trans h

/-- One delivery more returns, behind those that returned before it (R39). -/
theorem State.ReturnedTo.handBackOne (h : s.ReturnedTo t u q x done) (hx : x.state ≠ .purging)
    (he : s.entryQueue e = some (u, q)) (hdone : ∀ c ∈ done, s.entryQueue c = some (u, q)) :
    s.ReturnedTo (t.handBackOne done e) u q x (done ++ [e]) := by
  obtain ⟨hkept, hrecords, hqueue, hothers, hschedulers⟩ := h
  have hcount : t.handedBack done u q = done.length := by
    unfold State.handedBack
    refine List.countP_eq_length.2 fun c hc => ?_
    rw [State.entryQueue_of_unsequenced hrecords, hdone c hc, beq_self_eq_true]
  have hstep : t.handBackOne done e = Claims.entryReturned t u q (x.returned done) e done.length := by
    rw [State.handBackOne, State.entryQueue_of_unsequenced hrecords, he]
    dsimp only
    rw [hqueue]
    dsimp only
    rw [if_neg (show (x.returned done).state ≠ .purging from hx), hcount, Claims.entryReturned_eq]
  rw [hstep]
  exact
    { kept := hkept.trans (Claims.seqCleared_kept t e)
      records := hrecords.seqCleared e
      queue := (State.queue_setQueue_self ..).trans (congrArg some (x.returned_append done e))
      others := fun v r hvr => ((State.queue_setQueue ..).trans (if_neg fun k => hvr (Prod.ext k.1 k.2))).trans
        (hothers v r hvr)
      schedulers := (joinedIfEmpty_returned hschedulers).trans (if_neg (by simp)).symm }

/-- All the deliveries of one queue return (R115). -/
theorem State.ReturnedTo.handBack (hx : x.state ≠ .purging) (rest : List EntryRef) :
    ∀ (t : State) (done : List EntryRef), s.ReturnedTo t u q x done →
      (∀ c ∈ done ++ rest, s.entryQueue c = some (u, q)) →
      s.ReturnedTo (t.handBack done rest) u q x (done ++ rest) := by
  induction rest with
  | nil => exact fun t done h _ => (List.append_nil done).symm ▸ h
  | cons e rest ih =>
    intro t done h hall
    have hone := h.handBackOne hx (hall e (by simp)) fun c hc => hall c (List.mem_append_left _ hc)
    have hsplit : done ++ e :: rest = (done ++ [e]) ++ rest := by simp
    rw [State.handBack, hsplit]
    exact ih _ _ hone (hsplit ▸ hall)

end Return

end Sys2Proof.Machine

namespace Sys2Proof.Proofs

open Sys2Proof.Machine
open Sys2Proof.Claims

/-- Settles O15. -/
theorem fencingReportIsPlacedOrCounted : Obligations.FencingReportIsPlacedOrCounted := by
  intro p u content s q hc hst hl hout hne hu hothers hq
  have hexec : exec (.unreadableFrame p content) s =
      .next (reported (withPort s p ({ s.port p with protocolErrors := (s.port p).protocolLimit }.fenced .protocol)) u
        (.portFenced p .protocol)) := by
    rw [exec_unreadableFrame p hc, State.arriveUnreadable_fences hst hl, hout]
    exact congrArg Host.Outcome.next (Claims.fenceReported_one .protocol hne hu hothers)
  by_cases hroom : s.freeReports ≠ 0 ∧ q.heldMessages < 32
  · obtain ⟨hfree, hheld⟩ := hroom
    rw [Claims.reported_placed (s := withPort s p _) _ hu.1 hq hfree hheld] at hexec
    exact ⟨_, hexec, ⟨rfl, rfl, rfl, rfl⟩, rfl, fun _ _ => ⟨rfl, rfl, rfl, rfl, rfl⟩, fun h => absurd h (by omega)⟩
  · have hlost : s.freeReports = 0 ∨ 32 ≤ q.heldMessages := by omega
    rw [Claims.reported_lost (s := withPort s p _) _ hu.1 hq hlost] at hexec
    exact ⟨_, hexec, ⟨rfl, rfl, rfl, rfl⟩, rfl, fun hfree hheld => absurd ⟨hfree, hheld⟩ hroom,
      fun _ => ⟨rfl, rfl, rfl, rfl, rfl⟩⟩

end Sys2Proof.Proofs
end

section
/-! PROOFS. The events that end a session, each by its deliveries and its port (R115, R161), and the statement O11. -/

namespace Sys2Proof.Machine

open Sys2Proof.Claims (ProtocolFence RetryFence endedPort withPort fenceReported)

section Ends

variable {s : State} {p : PortId}

/-- A session end that leaves the port as x. -/
theorem State.endSession_then (s : State) (p : PortId) (x : PortLink) :
    (s.endSession p).setPort p x = withPort (s.handBack [] (s.port p).window.outstanding) p x := by
  rw [State.endSession_eq]
  unfold State.setPort withPort
  rw [Bank.set_set]

theorem exec_signalLoss_active (h : (s.port p).state = .active) :
    exec (.signalLoss p) s = .next
      (withPort (s.handBack [] (s.port p).window.outstanding) p
        { endedPort (s.port p) with state := .down, linkReply := none, line := none }) :=
  congrArg Host.Outcome.next ((State.loseSignal_active h).trans (s.endSession_then p _))

theorem exec_linkClose_active (b : Byte) (h : (s.port p).state = .active) :
    exec (.linkClose p (sealFrame [0x04, 2, b])) s = .next
      (withPort (s.handBack [] (s.port p).window.outstanding) p
        { endedPort (s.port p) with state := .idle, linkReply := some .closed }) := by
  rw [exec_linkClose, State.arriveLinkClose_active h, State.endSession_then]
  rfl

theorem exec_linkOpen_active {n : Byte} (hlow : 1 ≤ n.toNat) (hhigh : n.toNat ≤ 15) (h : (s.port p).state = .active) :
    exec (.linkOpen p (sealFrame [0x04, 1, n])) s = .next
      (withPort (s.handBack [] (s.port p).window.outstanding) p
        { endedPort (s.port p) with
          state := .active, session := some ⟨n.toNat, 0, 0⟩, linkReply := some (.opened n.toNat) }) := by
  rw [exec_linkOpen p hlow hhigh, State.arriveLinkOpen_active _ h, State.endSession_then]
  rfl

theorem exec_unreadableFrame_fences {content : List Byte} (h : (s.port p).state = .active)
    (hf : ProtocolFence s p content) :
    exec (.unreadableFrame p content) s = .next
      (fenceReported
        (withPort (s.handBack [] (s.port p).window.outstanding) p
          { endedPort (s.port p) with
            state := .fenced, fenceCause := some .protocol, linkReply := none
            protocolErrors := (s.port p).protocolLimit })
        p .protocol) := by
  obtain ⟨hcontent, hlimit⟩ := hf
  rw [exec_unreadableFrame p hcontent, State.arriveUnreadable_fences h hlimit]
  rfl

theorem exec_expiry_fences (hf : RetryFence s p) :
    exec (.expiry p) s = .next
      (fenceReported
        (withPort (s.handBack [] (s.port p).window.outstanding) p
          { endedPort (s.port p) with state := .fenced, fenceCause := some .retries, linkReply := none })
        p .retries) :=
  congrArg Host.Outcome.next ((s.expire_fence p hf.1 hf.2).trans (s.fence_eq p .retries))

end Ends

end Sys2Proof.Machine

namespace Sys2Proof.Proofs

open Sys2Proof.Machine
open Sys2Proof.Claims

/-- The events that end the session of an ACTIVE port and call for no report: their effect but for the port. -/
theorem exec_sessionEnd {s h : State} {p : PortId} {b n : Byte} {content : List Byte} {c : Instr}
    (hactive : (s.port p).state = .active) (hback : s.handBack [] (s.port p).window.outstanding = h)
    (hstations : h.stations = s.stations)
    (hc : c = .signalLoss p ∨ c = .linkClose p (sealFrame [0x04, 2, b]) ∨
        (c = .linkOpen p (sealFrame [0x04, 1, n]) ∧ 1 ≤ n.toNat ∧ n.toNat ≤ 15) ∨
        ((∀ v, v ≠ p → ¬ Manager s v) ∧
          ((c = .unreadableFrame p content ∧ ProtocolFence s p content) ∨ (c = .expiry p ∧ RetryFence s p)))) :
    ∃ y, exec c s = .next (withPort h p y) := by
  subst hback
  have hstation : ∀ (y : PortLink) v,
      (withPort (s.handBack [] (s.port p).window.outstanding) p y).station v = s.station v :=
    fun y v => congrArg (Bank.get · v) hstations
  have hnobody : (∀ v, v ≠ p → ¬ Manager s v) → ∀ y v, v ≠ p →
      ¬ Manager (withPort (s.handBack [] (s.port p).window.outstanding) p y) v := by
    intro hno y v hv k
    rw [Manager, Enabled, hstation y v] at k
    exact hno v hv k
  rcases hc with rfl | rfl | ⟨rfl, hlow, hhigh⟩ | ⟨hno, ⟨rfl, hf⟩ | ⟨rfl, hf⟩⟩
  · exact ⟨_, exec_signalLoss_active hactive⟩
  · exact ⟨_, exec_linkClose_active b hactive⟩
  · exact ⟨_, exec_linkOpen_active hlow hhigh hactive⟩
  · exact ⟨_, (exec_unreadableFrame_fences hactive hf).trans
      (congrArg Host.Outcome.next (Claims.fenceReported_nobody _ (hnobody hno _)))⟩
  · exact ⟨_, (exec_expiry_fences hf).trans
      (congrArg Host.Outcome.next (Claims.fenceReported_nobody _ (hnobody hno _)))⟩

/-- Settles O11. -/
theorem sessionEndReturnsDeliveriesInOrder : Obligations.SessionEndReturnsDeliveriesInOrder := by
  refine ⟨fun p s b n content u q x hactive hout hone hq hx c hc => ?_, fun p s h b n content hactive hback => ?_⟩
  · have hreturned := State.ReturnedTo.handBack hx (s.port p).window.outstanding s [] (State.ReturnedTo.refl hq) hone
    obtain ⟨⟨hgrants, hd, hcells, hr, hheld, hrqs, hstations⟩, ⟨hdescriptors, hreports⟩, hqueue, hothers,
      hschedulers⟩ := hreturned
    obtain ⟨y, hexec⟩ := exec_sessionEnd hactive rfl hstations hc
    exact ⟨_, hexec, hgrants, hqueue, hothers, hschedulers.trans (if_neg hout), hdescriptors, hreports, hd, hcells, hr,
      hheld, hrqs, hstations⟩
  · have hback := hback.eq
    rw [← hback]
    exact ⟨exec_signalLoss_active hactive, exec_linkClose_active b hactive,
      fun hlow hhigh => exec_linkOpen_active hlow hhigh hactive, exec_unreadableFrame_fences hactive,
      exec_expiry_fences⟩

end Sys2Proof.Proofs
end
